-- ==== Sys2Proof/Word.lean ====
section
/-! DEFINITION. The word types of the Engine (`00_scope.md` R6, R10; `10_state.md` R20, R24). -/

namespace Sys2Proof

/-- A byte, 8 bits (R10). -/
abbrev Byte := BitVec 8

/-- A halfword, 16 bits = 2 bytes (R10). -/
abbrev Half := BitVec 16

/-- A fullword, 32 bits = 4 bytes; the width of a general register (R6, R10). -/
abbrev Word := BitVec 32

/-- A memory address or program counter value, 20 bits, byte addressed (R6, R24). -/
abbrev Addr := BitVec 20

/-- A register field: 4 bits, naming a register of the selected set (R20). -/
abbrev Reg := BitVec 4

/-- A mask field of a jump, or the N field of an SF instruction: 4 bits (R113, R260). -/
abbrev Nib := BitVec 4

end Sys2Proof
end

