-- ==== Sys2Proof/Config.lean ====
section
/-! DEFINITION. What an installation fixes (`00_scope.md` R7, R8) as a record of plain data, and the
free values of the model as constants with no body. -/

namespace Sys2Proof.Config

/-- `MICROCODE_LEVEL`, the three classes of R7 and D36. -/
inductive MicrocodeLevel where
  /-- Below S-15: COPY, ARAND, SCAN, ALIGN, CKSUM and the bufferlet op codes are unassigned. -/
  | belowS15
  /-- S-15 up to below S.18. -/
  | s15
  /-- S.18 and above: CKSUM refetches itself. -/
  | s18
  deriving DecidableEq, Repr

/-- `HALFSHIFT_CC_WIDTH` (R8, R220, D10): the width G and L test after a halfword shift. -/
inductive HalfShiftWidth where
  | width16
  | width32
  deriving DecidableEq, Repr

/-- `ILLEGAL_SAVED_PC` (R8, R462, D13). -/
inductive IllegalSavedPc where
  /-- `a`, the address of the offending instruction. -/
  | current
  /-- `a + 2`, the program counter after the first halfword has been fetched. -/
  | afterFirst
  deriving DecidableEq, Repr

/-- `MAC_SAVED_PC` (R8, R465, D14). -/
inductive MacSavedPc where
  /-- The pc the instruction would have left. -/
  | next
  /-- The address of the instruction. -/
  | current
  deriving DecidableEq, Repr

/-- The clearing action of `MAC_STATUS_LAYOUT` (R44, D21). -/
inductive MacStatusClear where
  /-- Causes accumulate. -/
  | never
  /-- A new MAC fault replaces the causes recorded before. -/
  | onNextFault
  /-- A program read of one half of 0x340 clears: the right one if `right`, else the left one. -/
  | onRead (right : Bool)
  deriving DecidableEq, Repr

/-- `MAC_STATUS_LAYOUT` (R8, R44, D21): which bits of the 32 at 0x340 each cause sets, and what
clears them.  A register narrower than 32 bits is a layout that uses fewer of them. -/
structure MacStatusLayout where
  notPresent : Word
  limit : Word
  execute : Word
  write : Word
  clear : MacStatusClear
  deriving DecidableEq, Repr

/-- The parameters R7 and R8 leave to the installation. They stand in State (`State.params`), no
step changes them, and every statement holds for every value of them. -/
structure Params where
  microcode : MicrocodeLevel
  /-- `ENHANCED_ASYNC`. -/
  enhancedAsync : Bool
  /-- `ENHANCED_SYNC`. -/
  enhancedSync : Bool
  /-- `ENHANCED_INTERRUPTS`: PSW bits 8 and 9 gate ATN1 and ATN2. -/
  enhancedInterrupts : Bool
  /-- `SYNC_CARDS` = 2: sync devices 20 to 5F instead of 20 to 3F. -/
  secondSyncCard : Bool
  /-- `NASYNG`: how many async groups of 16 ports; the terms of R401 follow from it (`asyncLowRegister`
  to `asyncRingBytes` of Machine/Async.lean). -/
  asyncGroups : Nat
  /-- `MEM_PRESENT`: runs of absolute pages that hold memory, (first page, number of pages). -/
  memPresent : List (Nat × Nat)
  halfShift : HalfShiftWidth
  illegalSavedPc : IllegalSavedPc
  macSavedPc : MacSavedPc
  macStatus : MacStatusLayout
  deriving DecidableEq, Repr

/-- A fresh 32-bit value the source does not determine, by the number of the draw: `unspecified(n)`
of R11 takes its low n bits. No body: nothing can be proved of it (log 5). -/
opaque freeWord (draw : Nat) : Word

/-- The value an undescribed microcode body leaves in general register `reg` (0 to 255) of its
footprint, by the number of the draw (log 5, log 33). -/
opaque freeRegister (draw reg : Nat) : Word

/-- The halfwords of memory an undescribed microcode body writes, by the number of the draw: any
finite list of absolute addresses and values (log 5, log 33). -/
opaque freeStores (draw : Nat) : List (Addr × Half)

end Sys2Proof.Config
end

