-- ==== Sys2Proof/Machine/State.lean ====
section
/-! DEFINITION. The state of the Engine as plain data: everything `10_state.md` names, the parameters
of `00_scope.md` R7 and R8, the environment's inputs (R360, R458), and the model's own counter of free
values. Also the reasons a step can stop, and the state after reset. -/

namespace Sys2Proof.Machine

/-- The program status word (R30): all sixteen bits are defined, so it is held field by field; its
16-bit image is `Psw.toBits`. -/
structure Psw where
  /-- Wait (R31). -/
  w : Bool
  /-- I/O interrupt enable (R32). -/
  i : Bool
  /-- Machine malfunction enable (R33). -/
  m : Bool
  /-- Trace (R34). -/
  t : Bool
  /-- Async microinstructions enable (R35). -/
  a : Bool
  /-- Relocation and protection enable (R36). -/
  rp : Bool
  /-- Sync microcoded interrupt enable (R37). -/
  s : Bool
  /-- Set: privileged instructions are forbidden (R38). -/
  p : Bool
  /-- Register set select (R39). -/
  rs : BitVec 4
  /-- Carry (R40). -/
  c : Bool
  /-- Overflow (R40). -/
  v : Bool
  /-- Greater than zero (R40). -/
  g : Bool
  /-- Less than zero (R40). -/
  l : Bool
  deriving DecidableEq, Repr

/-- The causes of a MAC fault (R90). -/
inductive MacCause where
  | notPresent
  | limit
  | execute
  | write
  deriving DecidableEq, Repr

/-- The MAC status register as the set of the four causes (R44, D21). -/
structure MacStatus where
  notPresent : Bool
  limit : Bool
  execute : Bool
  write : Bool
  deriving DecidableEq, Repr

/-- The three I/O attention levels (R458). -/
inductive IoLevel where
  | atn0
  | atn1
  | atn2
  deriving DecidableEq, Repr

/-- What a microcoded service of a request does to the machine (R476, R480, D38): the environment's
part of the request. The processor lets it change only what the rules name (`takeLevel1`,
`asyncService`). -/
structure Service where
  /-- Sync: is it the line's output interrupt, or its input interrupt? Which of its two devices is which is
  not stated (R476). -/
  output : Bool
  /-- Sync: the data in register 3 of set 0, into which an input interrupt reads it (R476). -/
  syncInput : Option Word
  /-- Sync: the line, modulo the number of lines, whose descriptor is at 0x400 + 10 times it (R476; N33). -/
  line : Nat
  /-- Sync: what the service reads where its addresses name no memory, which is not stated. -/
  unread : Half
  /-- Are the addresses of the descriptor, the rings and the tables relocated (R476; N33, D39)? -/
  relocated : Bool
  /-- Async: new values of registers, each (set, register, value) (R480). -/
  asyncRegs : List (Nib × Reg × Word)
  /-- Halfwords the service writes: absolute address and value (R476, R480). -/
  stores : List (Addr × Half)
  deriving DecidableEq, Repr

/-- A device's interrupt request (R458, R470). -/
structure IoRequest where
  level : IoLevel
  /-- What the acknowledge returns: the device's 16-bit address, or no response. -/
  ack : Option Half
  service : Service
  deriving DecidableEq, Repr

/-- The pending conditions of R48 and R458 other than I/O requests. -/
structure Pending where
  earlyPowerDown : Bool
  consoleAttention : Bool
  parityError : Bool
  powerRestored : Bool
  /-- The pending MAC interrupt: set by a translation that fails (R95), cleared when the interrupt
  is taken. While an instruction runs it says that one of its accesses has faulted. -/
  mac : Bool
  /-- A MAC interrupt that waits, after the instruction that raised it, for a machine malfunction, which has a
  higher rank, or for psw.RP (R458, log 24). -/
  macWaiting : Bool
  /-- The console's "single" condition, single-step, which the operator sets and resets (R47, R424, R485,
  log 49). -/
  single : Bool
  deriving DecidableEq, Repr

/-- A parity error in an instruction (R161, R168, R458, R460). -/
structure ParityBreak where
  /-- After how many fullword transfers it comes, in LM and STM. -/
  transfers : Nat
  /-- The value the MAC's register 0x348 takes. -/
  address : Word
  /-- Is it latched: psw.M was 1 when the instruction began, or it was not and the hardware latches it all
  the same, which is not stated (U30)? -/
  latched : Bool
  deriving DecidableEq, Repr

/-- What the environment may do at an instruction boundary (R360, R458, U24, U27). -/
inductive EnvEvent where
  /-- A device raises a request. -/
  | request (r : IoRequest)
  /-- A DMA device writes a halfword of main memory (R100). -/
  | dmaWrite (at_ : Addr) (value : Half)
  /-- A core memory parity error; the value the MAC's register 0x348 takes (R45, R460). -/
  | parityError (address : Word)
  /-- Power has been restored (R460). -/
  | powerRestored
  /-- Early power failure (R458 rank 1). -/
  | earlyPowerDown
  /-- The operator raises console attention (R458 rank 2). -/
  | consoleAttention
  /-- The operator sets or resets the console's "single" condition (R47). -/
  | setSingle (on : Bool)
  /-- The operator sets the switch register (R47). -/
  | setSwitches (value : Half)
  /-- The bus sync signal is active when it should be inactive (R495, 1A8). -/
  | busFault
  /-- A parity error in the instruction that runs next, after this many fullword transfers if it is LM
  or STM; the value the MAC's register 0x348 takes (R161, R168, R460). -/
  | parityDuring (transfers : Nat) (address : Word)
  /-- The console reports an operator error (R495). -/
  | operatorError
  /-- An interrupt request will stop the COPY that runs next after this many halfwords (R175). -/
  | copyBreak (halfwords : Nat)
  deriving DecidableEq, Repr

/-- A device's answer to one bus operation (R360): no response, or a response with the 16 bits a
sense or a read delivers. -/
inductive BusAnswer where
  | timeout
  | data (d : Half)
  deriving DecidableEq, Repr

/-- An operation the processor puts on the multiplexor bus (R360). -/
inductive BusOp where
  | sense (dev : Half)
  | command (dev cmd : Half)
  | read (dev : Half)
  | write (dev data : Half)
  deriving DecidableEq, Repr

/-- Main memory: (address, byte) pairs in the canonical form of `Memory.wf`. -/
abbrev Memory := List Host.Cell

/-- The state of the machine. -/
structure State where
  /-- Register r of set s is element 16 s + r (R20). -/
  regs : Vector Word 256
  /-- Program counter (R24). -/
  pc : Addr
  /-- Program status word (R30). -/
  psw : Psw
  /-- Main memory, absolute addresses (R60). -/
  mem : Memory
  /-- MAC registers 0 to 15, at absolute 0x300 + 4 n (R43). -/
  macDesc : Vector Word 16
  /-- MAC status register, at 0x340 (R44). -/
  macStatus : MacStatus
  /-- MAC register at 0x344, last instruction fetch, absolute (R45). -/
  lastFetchAbs : Word
  /-- MAC register at 0x348, parity-error address (R45). -/
  parityAddr : Word
  /-- MAC register at 0x34C, last instruction fetch, virtual (R45). -/
  lastFetchVirt : Word
  /-- Console display, left 20 bits (R47). -/
  displayLeft : Addr
  /-- Console display, right 16 bits (R47). -/
  displayRight : Half
  /-- Console switch register (R47). -/
  switches : Half
  /-- Pending conditions (R48). -/
  pend : Pending
  /-- Pending I/O requests, oldest first (R458). -/
  requests : List IoRequest
  /-- The microcode halt the machine is in (R495). -/
  halt : Option (BitVec 12)
  /-- The installation (R7, R8); no step changes it. -/
  params : Config.Params
  /-- The environment's events, one list for each coming instruction boundary (R360). -/
  env : List (List EnvEvent)
  /-- The devices' answers to the coming bus operations; past its end every device times out
  (R360, D20). -/
  busIn : List BusAnswer
  /-- The model's own record of the bus operations made, newest first. -/
  busOut : List BusOp
  /-- The model's own: after how many halfwords the COPY that runs next is stopped (R175). -/
  copyBreak : Option Nat
  /-- The model's own: a parity error in the instruction that runs next, reported at the boundary after it
  (R161, R168). -/
  parityBreak : Option ParityBreak
  /-- The model's own: how many free values have been drawn (log 5). -/
  freeIx : Nat
  deriving DecidableEq, Repr

/-- Why the machine stops with a fault. -/
inductive Fault where
  /-- An access to an absolute page that holds no memory (R60, R73, U12): raised by every memory
  operation. Safe: the hardware's result is not defined by the source. -/
  | absentMemory
  /-- The microcode has halted (R495): raised by `step` in a state whose `halt` is set. Safe: "a halt
  is a terminal state". -/
  | microcodeHalted
  /-- The wait state with I/O and machine malfunction interrupts disabled (R490, U26): raised by
  `step`. Safe: the machine is stuck until reset. -/
  | waitingForever
  deriving DecidableEq, Repr

/-- Why the model refuses to go on. -/
inductive Refusal where
  /-- The instruction has no meaning in this model yet: raised by `exec` alone. Safe. -/
  | notModelled (mnemonic : String)
  /-- An RX3 encoding with bits 18:19 not 00 (R120, D12): raised by `step`. Safe. -/
  | rx3ReservedBits
  /-- An odd value for the program counter (R24, R124, R274, D18): raised by every transfer of
  control. Safe. -/
  | oddProgramCounter
  /-- An access to absolute 0x350 to 0x3FF, reserved for the MAC (C13, U7): raised by every memory
  operation. Safe. -/
  | macReserved
  /-- A write to the MAC registers at 0x340 to 0x34F (R82, U13): raised by every store. Safe. -/
  | macRegisterWrite
  /-- Console attention is pending: the operator service is not described (R458 rank 2). Raised by
  `step`. Safe. -/
  | consoleService
  /-- The console's "single" condition is set: what single-step does is not described (R47, R485). Raised
  by `step` before the next instruction. Safe. -/
  | singleStep
  /-- COPY whose x[R2] has low four bits other than 0: "a model refuses" it (R175, U20, D31). Raised by
  `exec`. Safe. -/
  | copyLowBits
  /-- COPY whose source and destination overlap: "a model refuses" it (R175, U20, D31). Raised by `exec`.
  Safe. -/
  | copyOverlap
  /-- ARAND with x[R2] + 1 no multiple of 16: "a model refuses" it (R216, U20, D31). Raised by `exec`.
  Safe. -/
  | arandPartialHalfword
  deriving DecidableEq, Repr

/-- The recommended PSW of R520: running, all interrupts disabled, not relocated, privileged, set 0. -/
def Psw.zero : Psw :=
  { w := false, i := false, m := false, t := false, a := false, rp := false, s := false, p := false,
    rs := 0#4, c := false, v := false, g := false, l := false }

/-- The installation at reset (log 2): everything present, all of memory, the values the spec's test
vectors take by default. -/
def paramsAtReset : Config.Params :=
  { microcode := .s18, enhancedAsync := true, enhancedSync := true, enhancedInterrupts := true,
    secondSyncCard := false, asyncGroups := 1, memPresent := [(0, 4096)], halfShift := .width16,
    illegalSavedPc := .current, macSavedPc := .next,
    macStatus := { notPresent := 8#32, limit := 4#32, execute := 2#32, write := 1#32,
                   clear := .never } }

/-- The machine right after reset: the recommended `RESET_STATE` of R520 and D19, with a value named
by log 1 for every register the spec gives none. -/
def State.reset : State :=
  { regs := Vector.replicate 256 0#32, pc := 0#20, psw := Psw.zero, mem := [],
    macDesc := Vector.replicate 16 0#32,
    macStatus := { notPresent := false, limit := false, execute := false, write := false },
    lastFetchAbs := 0#32, parityAddr := 0#32, lastFetchVirt := 0#32,
    displayLeft := 0#20, displayRight := 0#16, switches := 0#16,
    pend := { earlyPowerDown := false, consoleAttention := false, parityError := false,
              powerRestored := false, mac := false, macWaiting := false, single := false },
    requests := [], halt := none, params := paramsAtReset, env := [], busIn := [], busOut := [],
    copyBreak := none, parityBreak := none, freeIx := 0 }

end Sys2Proof.Machine
end

