-- ==== Sys2Proof/Machine/Flags.lean ====
section
/-! DEFINITION. The PSW image and every flag computation of the spec, as functions of their operands
(`10_state.md` R30, R40, R42; `00_scope.md` R11 `setGL`; `41_logical_shift_bit.md` R220;
`43_arithmetic.md` R280, R289, R296, R302, R303). -/

namespace Sys2Proof.Machine

/-- The 16-bit PSW, bit 0 (W) leftmost (R30). -/
def Psw.toBits (q : Psw) : Half :=
  BitVec.ofBool q.w ++ BitVec.ofBool q.i ++ BitVec.ofBool q.m ++ BitVec.ofBool q.t ++
  BitVec.ofBool q.a ++ BitVec.ofBool q.rp ++ BitVec.ofBool q.s ++ BitVec.ofBool q.p ++ q.rs ++
  BitVec.ofBool q.c ++ BitVec.ofBool q.v ++ BitVec.ofBool q.g ++ BitVec.ofBool q.l

/-- The PSW whose sixteen bits are `h` (R30). -/
def Psw.ofBits (h : Half) : Psw :=
  { w := h.getMsbD 0, i := h.getMsbD 1, m := h.getMsbD 2, t := h.getMsbD 3, a := h.getMsbD 4,
    rp := h.getMsbD 5, s := h.getMsbD 6, p := h.getMsbD 7, rs := h.extractLsb' 4 4,
    c := h.getMsbD 12, v := h.getMsbD 13, g := h.getMsbD 14, l := h.getMsbD 15 }

/-- `PSWimage()` (R330, R42, D6): the PSW in bits 16:31, zeros in bits 0:15. -/
def Psw.image (q : Psw) : Word := q.toBits.setWidth 32

/-- The PSW of an image: bits 16:31; bits 0:15 are ignored (R42). -/
def Psw.ofImage (w : Word) : Psw := Psw.ofBits (w.setWidth 16)

/-- A PC image: the 20 bits in 12:31, zeros in 0:11 (R26, D7). -/
def pcImage (a : Addr) : Word := a.setWidth 32

/-- The location in a PC image: bits 12:31 (R26). -/
def pcOfImage (w : Word) : Addr := w.setWidth 20

/-- The condition code (R40). -/
structure Flags where
  c : Bool
  v : Bool
  g : Bool
  l : Bool
  deriving DecidableEq, Repr

/-- `setGL(v)` with the given carry: V 0, L the sign, G positive and not zero (R11). -/
def signFlags {w : Nat} (c : Bool) (v : BitVec w) : Flags :=
  { c := c, v := false, g := !v.msb && v != 0, l := v.msb }

/-- `AddCC` (R280): C is the carry out of bit 0. -/
def addFlags (a b : Word) : Flags := signFlags (decide (4294967296 ≤ a.toNat + b.toNat)) (a + b)

/-- `SubCC` (R289), also `CL` (R296): C = 1 means no borrow. -/
def subFlags (a b : Word) : Flags := signFlags (decide (b.toNat ≤ a.toNat)) (a - b)

/-- `Cmp` (R303): the true signed order; `c` is the unspecified carry. -/
def compareFlags (c : Bool) (a b : Word) : Flags :=
  { c := c, v := false, g := b.slt a, l := a.slt b }

/-- The condition code of the bit instructions (R245): G is the bit, `c` the unspecified carry. -/
def bitFlags (c bit : Bool) : Flags := { c := c, v := false, g := bit, l := false }

/-- The condition code of the I/O instructions after the operation (R359): 0100 on a timeout, else
0000. -/
def ioFlags (timeout : Bool) : Flags := { c := false, v := timeout, g := false, l := false }

/-- The condition code SSR takes from the rightmost four bits of the status (R352, C10). -/
def statusFlags (d : Half) : Flags :=
  { c := d.getMsbD 12, v := d.getMsbD 13, g := d.getMsbD 14, l := d.getMsbD 15 }

/-- One place of a left shift: the bit shifted out of position 0, zero into the right end (R221). -/
def leftOne {w : Nat} (v : BitVec w) : Bool × BitVec w := (v.msb, v <<< 1)

/-- One place of a logical right shift (R223). -/
def rightOne {w : Nat} (v : BitVec w) : Bool × BitVec w := (v.getLsbD 0, v >>> 1)

/-- One place of an arithmetic right shift: the sign is copied (R319). -/
def arithmeticOne {w : Nat} (v : BitVec w) : Bool × BitVec w := (v.getLsbD 0, v.sshiftRight 1)

/-- One place of a left rotation: bit 0 re-enters on the right (R229). -/
def rotateLeftOne {w : Nat} (v : BitVec w) : Bool × BitVec w := (v.msb, v.rotateLeft 1)

/-- One place of a right rotation (R230). -/
def rotateRightOne {w : Nat} (v : BitVec w) : Bool × BitVec w := (v.getLsbD 0, v.rotateRight 1)

/-- A shift made one place at a time, `n` times: the last bit shifted out, none if nothing was
shifted, and the result (R220 (b), (c)). -/
def shiftTimes {w : Nat} (one : BitVec w → Bool × BitVec w) :
    Nat → Option Bool → BitVec w → Option Bool × BitVec w
  | 0, last, v => (last, v)
  | n + 1, _, v => shiftTimes one n (some (one v).1) (one v).2

/-- The mask test of the conditional jumps: does the condition code share a bit with the mask, with
weights C 8, V 4, G 2, L 1 (R260). -/
def Psw.meets (q : Psw) (mask : Nib) : Bool :=
  (mask.getLsbD 3 && q.c) || (mask.getLsbD 2 && q.v) || (mask.getLsbD 1 && q.g) ||
    (mask.getLsbD 0 && q.l)

/-- The number of the leftmost 1 bit of `v`, counted from the left, from bit `from_` on (R272): the
least such number, or the width if there is none. -/
def leftmostOneFrom {w : Nat} (v : BitVec w) : Nat → Nat → Nat
  | 0, k => k
  | left + 1, k => if v.getMsbD k then k else leftmostOneFrom v left (k + 1)

/-- The number of the leftmost 1 bit, leftmost bit 0 (R272, R216). -/
def leftmostOne {w : Nat} (v : BitVec w) : Nat := leftmostOneFrom v w 0

end Sys2Proof.Machine
end

