-- ==== Sys2Proof/Machine/Memory.lean ====
section
/-! DEFINITION. Main memory byte by byte (`20_memory.md` R60), held in one canonical form: addresses
strictly rising, all inside the 20-bit space, and no byte listed that an unlisted address reads as. -/

namespace Sys2Proof.Machine

/-- What a byte nothing has written reads as. The spec gives memory no contents at power-up (R49);
zero is the model's choice (log 3). -/
def unlistedByte : Byte := 0#8

/-- One byte of memory. -/
def Memory.read : Memory → Nat → Byte
  | [], _ => unlistedByte
  | (k, b) :: rest, a => if k = a then b else Memory.read rest a

/-- Memory with one byte written; writing what an unlisted byte reads as removes the entry. -/
def Memory.write : Memory → Nat → Byte → Memory
  | [], a, b => if b = unlistedByte then [] else [(a, b)]
  | (k, v) :: rest, a, b =>
    if a < k then (if b = unlistedByte then (k, v) :: rest else (a, b) :: (k, v) :: rest)
    else if a = k then (if b = unlistedByte then rest else (a, b) :: rest)
    else (k, v) :: Memory.write rest a b

/-- The canonical form. -/
def Memory.wf : Memory → Bool
  | [] => true
  | (k, v) :: rest =>
    decide (k < 1048576) && v != unlistedByte && rest.all (fun c => decide (k < c.1)) &&
      Memory.wf rest

end Sys2Proof.Machine
end

