-- ==== Sys2Proof/Machine/Ops.lean ====
section
/-! DEFINITION. The named operations over registers and memory (`10_state.md`, `20_memory.md`), taking
an exception (`60_exceptions.md` R451 and the rules that use it) and loading a PSW and a location, on
which every meaning is built. -/

namespace Sys2Proof.Machine

/-- The three outcomes of an instruction and of a step. -/
abbrev Out := Host.Outcome State Fault Refusal

/-- The result of an operation inside an instruction: a value and the state after it, or a stop. -/
inductive Res (α : Type) where
  | ok (a : α) (s : State)
  | fault (f : Fault)
  | refused (r : Refusal)

/-- Go on with the value and the state, if there is one. -/
def Res.bind {α β : Type} : Res α → (α → State → Res β) → Res β
  | .ok a s, k => k a s
  | .fault f, _ => .fault f
  | .refused r, _ => .refused r

/-- The outcome of an operation that is the last. -/
def Res.out : Res Unit → Out
  | .ok _ s => .next s
  | .fault f => .fault f
  | .refused r => .refused r

/-! ## Registers (R20, R21, R22) -/

/-- The place of register `r` of set `set` among the 256 (R20). -/
def regIndex (set : Nib) (r : Reg) : Fin 256 :=
  ⟨16 * set.toNat + r.toNat, by have := set.isLt; have := r.isLt; omega⟩

/-- `xs[set][r]` (R11). -/
def State.regIn (s : State) (set : Nib) (r : Reg) : Word :=
  s.regs[(regIndex set r).val]'(regIndex set r).isLt

/-- `xs[set][r] <- v` (R11). -/
def State.setRegIn (s : State) (set : Nib) (r : Reg) (v : Word) : State :=
  { s with regs := s.regs.set (regIndex set r).val v (regIndex set r).isLt }

/-- `x[r]`: the register of the set psw.RS selects (R11, R20). -/
def State.reg (s : State) (r : Reg) : Word := s.regIn s.psw.rs r

/-- `x[r] <- v` (R11). -/
def State.setReg (s : State) (r : Reg) (v : Word) : State := s.setRegIn s.psw.rs r v

/-- The register after `r`, modulo 16 (R22). -/
def nextReg (r : Reg) : Reg := r + 1#4

/-! ## Single fields -/

/-- The program counter replaced. -/
def State.setPc (s : State) (a : Addr) : State := { s with pc := a }

/-- The whole PSW replaced. -/
def State.setPsw (s : State) (q : Psw) : State := { s with psw := q }

/-- The condition code replaced, all four bits (R40). -/
def State.setFlags (s : State) (f : Flags) : State :=
  { s with psw := { s.psw with c := f.c, v := f.v, g := f.g, l := f.l } }

/-- The pending MAC condition replaced (R48). -/
def State.setMacPending (s : State) (b : Bool) : State := { s with pend := { s.pend with mac := b } }

/-- A MAC interrupt waits, or no longer does (R458). -/
def State.setMacWaiting (s : State) (b : Bool) : State := { s with pend := { s.pend with macWaiting := b } }

/-- Main memory replaced. -/
def State.setMem (s : State) (m : Memory) : State := { s with mem := m }

/-! ## Free values (R11 `unspecified`, log 5) -/

/-- The next free value. -/
def State.free (s : State) : Word := Config.freeWord s.freeIx

/-- One bit of the next free value. -/
def State.freeBit (s : State) : Bool := s.free.getLsbD 0

/-- One more free value has been used. -/
def State.tick (s : State) : State := { s with freeIx := s.freeIx + 1 }

/-- Four free condition-code bits. -/
def State.freeFlags (s : State) : Flags :=
  { c := s.free.getLsbD 3, v := s.free.getLsbD 2, g := s.free.getLsbD 1, l := s.free.getLsbD 0 }

/-! ## What an instruction writes (R465, D14, log 16)

While an instruction runs, a pending MAC condition says that one of its accesses has faulted. From then
on everything it writes holds an unspecified value, until the interrupt is taken at its end. -/

/-- `x[r] <- v` as an instruction does it. -/
def State.writeReg (s : State) (r : Reg) (v : Word) : State :=
  if s.pend.mac then s.tick.setReg r s.free else s.setReg r v

/-- The condition code as an instruction writes it. -/
def State.writeFlags (s : State) (f : Flags) : State :=
  if s.pend.mac then s.tick.setFlags s.freeFlags else s.setFlags f

/-- The PSW as an instruction loads it: `LoadPSW` (R330). -/
def State.loadPsw (s : State) (q : Psw) : State :=
  if s.pend.mac then s.tick.setPsw (Psw.ofImage s.free) else s.setPsw q

/-- `CCload(v)` (R151): C unspecified, V 0, G and L from the 32-bit value. -/
def State.loadFlags (s : State) (v : Word) : State := s.tick.writeFlags (signFlags s.freeBit v)

/-- `psw.T <- b` as an instruction does it (R332, R485). -/
def State.writeTrace (s : State) (b : Bool) : State :=
  if s.pend.mac then s.tick.setPsw { s.psw with t := s.freeBit } else s.setPsw { s.psw with t := b }

/-- `pc <- a` by an interrupt entry: an odd value is refused (R24, R124, D18, log 20). -/
def enterAt (a : Addr) (s : State) : Res Unit :=
  if a.getLsbD 0 then .refused .oddProgramCounter else .ok () (s.setPc a)

/-- `pc <- a` by a trace trap or a PSW load: an odd value is refused (R24, D18, log 20). After a MAC fault in
the instruction the value is unspecified. -/
def loadPc (a : Addr) (s : State) : Res Unit :=
  if s.pend.mac then .ok () (s.tick.setPc (s.free.setWidth 20)) else enterAt a s

/-! ## The MAC (R43 to R45, R90) -/

/-- The kinds of memory access (R90). -/
inductive Access where
  | fetch
  | read
  | write
  deriving DecidableEq, Repr

/-- Segment field S of a virtual address: bits 0:3 (R90). -/
def segmentOf (va : Addr) : Nib := va.extractLsb' 16 4

/-- Page field PP: bits 4:11 (R90). -/
def pageOf (va : Addr) : Byte := va.extractLsb' 8 8

/-- Byte field BB: bits 12:19 (R90). -/
def byteOf (va : Addr) : Byte := va.extractLsb' 0 8

/-- Descriptor field LL: bits 4:11 (R43). -/
def limitField (d : Word) : Byte := d.extractLsb' 20 8

/-- Descriptor field KKK: bits 12:23 (R43). -/
def baseField (d : Word) : BitVec 12 := d.extractLsb' 8 12

/-- Descriptor bit E: bit 24 (R43). -/
def executeProtected (d : Word) : Bool := d.getMsbD 24

/-- Descriptor bit W: bit 26 (R43). -/
def writeProtected (d : Word) : Bool := d.getMsbD 26

/-- Descriptor bit P: bit 27 (R43). -/
def present (d : Word) : Bool := d.getMsbD 27

/-- MAC register n (R43). -/
def State.descriptor (s : State) (n : Nib) : Word := s.macDesc[n.toNat]'n.isLt

/-- `Translate` with psw.RP = 1 (R90): the four checks in their order, then the absolute address. -/
def relocate (d : Word) (kind : Access) (va : Addr) : Except MacCause Addr :=
  if !present d then .error .notPresent
  else if limitField d < pageOf va then .error .limit
  else if kind = .fetch ∧ executeProtected d then .error .execute
  else if kind = .write ∧ writeProtected d then .error .write
  else .ok (((pageOf va).setWidth 12 + baseField d) ++ byteOf va)

/-- `Translate(va, kind)` (R90). -/
def translate (kind : Access) (va : Addr) (s : State) : Except MacCause Addr :=
  if s.psw.rp then relocate (s.descriptor (segmentOf va)) kind va else .ok va

/-- The MAC status with no cause. -/
def MacStatus.none : MacStatus :=
  { notPresent := false, limit := false, execute := false, write := false }

/-- The MAC status with one more cause (R95). -/
def MacStatus.add (m : MacStatus) : MacCause → MacStatus
  | .notPresent => { m with notPresent := true }
  | .limit => { m with limit := true }
  | .execute => { m with execute := true }
  | .write => { m with write := true }

/-- The 32 bits at 0x340 under a layout (R44, D21). -/
def MacStatus.word (m : MacStatus) (y : Config.MacStatusLayout) : Word :=
  (if m.notPresent then y.notPresent else 0#32) ||| (if m.limit then y.limit else 0#32) |||
  (if m.execute then y.execute else 0#32) ||| (if m.write then y.write else 0#32)

/-- `MacFault(cause)` (R95, R465): the cause is recorded and the interrupt becomes pending; only the
first fault of an instruction counts (R11 `raise`, log 23). -/
def State.raiseMac (s : State) (cause : MacCause) : State :=
  if s.pend.mac then s
  else
    { s with
      macStatus :=
        (if s.params.macStatus.clear = .onNextFault then MacStatus.none else s.macStatus).add cause
      pend := { s.pend with mac := true } }

/-! ## Absolute memory (R60, R64, R72, R73, R82) -/

/-- The left or the right half of a fullword. -/
def halfOf (right : Bool) (w : Word) : Half := if right then w.setWidth 16 else w.extractLsb' 16 16

/-- A fullword with one half replaced. -/
def withHalf (right : Bool) (w : Word) (h : Half) : Word :=
  if right then (w.extractLsb' 16 16) ++ h else h ++ (w.setWidth 16 : Half)

/-- Where the halfword that holds an address begins: its low bit is ignored (R66). -/
def evenBase (a : Addr) : Nat := 2 * (a.toNat / 2)

/-- The halfword of memory at an address, the left byte at the lower address (R64). -/
def Memory.half (m : Memory) (a : Addr) : Half := m.read (evenBase a) ++ m.read (evenBase a + 1)

/-- Memory with the halfword at an address replaced (R64). -/
def Memory.setHalf (m : Memory) (a : Addr) (h : Half) : Memory :=
  (m.write (evenBase a) (h.extractLsb' 8 8)).write (evenBase a + 1) (h.setWidth 8)

/-- Does the page of an absolute address hold memory (`MEM_PRESENT`, R7)? -/
def pagePresent (p : Config.Params) (a : Addr) : Bool :=
  p.memPresent.any fun r =>
    decide (r.1 ≤ a.toNat / 256) && decide (a.toNat / 256 < r.1 + r.2)

/-- Is the absolute address one of 0x300 to 0x33F, the descriptors (R43)? -/
def isDescriptor (a : Addr) : Bool := 0x300#20 ≤ a && a ≤ 0x33F#20

/-- Is the absolute address one of 0x340 to 0x34F, the other MAC registers (R44, R45)? -/
def isMacOther (a : Addr) : Bool := 0x340#20 ≤ a && a ≤ 0x34F#20

/-- Is the absolute address one of 0x350 to 0x3FF, reserved for the MAC (C13)? -/
def isMacReserved (a : Addr) : Bool := 0x350#20 ≤ a && a ≤ 0x3FF#20

/-- Is it an address of main memory that is present (R73)? -/
def isPlain (p : Config.Params) (a : Addr) : Bool :=
  !isDescriptor a && !isMacOther a && !isMacReserved a && pagePresent p a

/-- The number of the MAC register that holds an absolute address of 0x300 to 0x33F (R43). -/
def descriptorIndex (a : Addr) : Nib := a.extractLsb' 2 4

/-- A read of the status register may clear it (R82, D21). -/
def State.afterStatusRead (s : State) (right : Bool) : State :=
  if s.params.macStatus.clear = .onRead right then { s with macStatus := MacStatus.none } else s

/-- The MAC register at 0x340, 0x344, 0x348 or 0x34C (R44, R45). -/
def State.macOther (s : State) (a : Addr) : Word :=
  if a.extractLsb' 2 2 = 0#2 then s.macStatus.word s.params.macStatus
  else if a.extractLsb' 2 2 = 1#2 then s.lastFetchAbs
  else if a.extractLsb' 2 2 = 2#2 then s.parityAddr
  else s.lastFetchVirt

/-- `AbsReadHalf` (R73). -/
def absReadHalf (a : Addr) (s : State) : Res Half :=
  if isDescriptor a then .ok (halfOf (a.getLsbD 1) (s.descriptor (descriptorIndex a))) s
  else if isMacOther a then
    .ok (halfOf (a.getLsbD 1) (s.macOther a))
      (if a.extractLsb' 2 2 = 0#2 then s.afterStatusRead (a.getLsbD 1) else s)
  else if isMacReserved a then .refused .macReserved
  else if pagePresent s.params a then .ok (s.mem.half a) s
  else .fault .absentMemory

/-- Half of a descriptor replaced (R43). -/
def State.setDescriptorHalf (s : State) (a : Addr) (h : Half) : State :=
  { s with
    macDesc := s.macDesc.set (descriptorIndex a).toNat
      (withHalf (a.getLsbD 1) (s.descriptor (descriptorIndex a)) h) (descriptorIndex a).isLt }

/-- `AbsWriteHalf` (R73). -/
def absWriteHalf (a : Addr) (h : Half) (s : State) : Res Unit :=
  if isDescriptor a then .ok () (s.setDescriptorHalf a h)
  else if isMacOther a then .refused .macRegisterWrite
  else if isMacReserved a then .refused .macReserved
  else if pagePresent s.params a then .ok () (s.setMem (s.mem.setHalf a h))
  else .fault .absentMemory

/-- The address of a halfword or fullword operand: the low bit is ignored (R66). -/
def evenAddr (a : Addr) : Addr := a &&& 0xFFFFE#20

/-- `AbsRead(a, 4)` (R72). -/
def absReadFull (a : Addr) (s : State) : Res Word :=
  (absReadHalf (evenAddr a) s).bind fun hi t =>
    (absReadHalf (evenAddr a + 2#20) t).bind fun lo u => .ok (hi ++ lo) u

/-- `AbsWrite(a, 4, v)` (R72). -/
def absWriteFull (a : Addr) (v : Word) (s : State) : Res Unit :=
  (absWriteHalf (evenAddr a) (halfOf false v) s).bind fun _ t =>
    absWriteHalf (evenAddr a + 2#20) (halfOf true v) t

/-! ## Program memory (R62, R66, R70, R71, R95) -/

/-- A halfword delivered to an instruction: unspecified once one of its accesses has faulted. -/
def deliver (h : Half) (s : State) : Res Half :=
  if s.pend.mac then .ok (s.free.setWidth 16) s.tick else .ok h s

/-- One halfword transfer of `MemRead` at an even program address (R70); a read that faults, and every
read of the instruction after it, delivers an unspecified value (R95, D14, log 16). -/
def readHalfAt (kind : Access) (va : Addr) (s : State) : Res Half :=
  if s.pend.mac then deliver 0#16 s
  else
    match translate kind va s with
    | .ok pa => absReadHalf pa s
    | .error cause => deliver 0#16 (s.raiseMac cause)

/-- Does the absolute address hold a halfword a store replaces: of a descriptor or of memory? -/
def isStorable (p : Config.Params) (a : Addr) : Bool := isDescriptor a || isPlain p a

/-- A write of the instruction after a MAC fault: the halfword holds an unspecified value afterwards, if
the place is one a store can reach (R465, D14, log 16). -/
def writeTainted (va : Addr) (s : State) : Res Unit :=
  match translate .write va s with
  | .ok pa =>
    if isStorable s.params pa then absWriteHalf pa (s.free.setWidth 16) s.tick else .ok () s.tick
  | .error _ => .ok () s

/-- One halfword transfer of `MemWrite` at an even program address (R71); a write that faults changes
no memory (R95, D14). -/
def writeHalfAt (va : Addr) (h : Half) (s : State) : Res Unit :=
  if s.pend.mac then writeTainted va s
  else
    match translate .write va s with
    | .ok pa => absWriteHalf pa h s
    | .error cause => .ok () (s.raiseMac cause)

/-- The 20-bit program address of a 32-bit address (R62, R70). -/
def programAddr (ea : Word) : Addr := ea.setWidth 20

/-- `MemRead(ea, 2)` (R70). -/
def readHalf (ea : Word) (s : State) : Res Half := readHalfAt .read (evenAddr (programAddr ea)) s

/-- `MemRead(ea, 4)` (R70). -/
def readFull (ea : Word) (s : State) : Res Word :=
  (readHalfAt .read (evenAddr (programAddr ea)) s).bind fun hi t =>
    (readHalfAt .read (evenAddr (programAddr ea) + 2#20) t).bind fun lo u => .ok (hi ++ lo) u

/-- The byte of a halfword an address selects: the left one if the address is even (R70). -/
def byteAt (a : Addr) (h : Half) : Byte := if a.getLsbD 0 then h.setWidth 8 else h.extractLsb' 8 8

/-- A halfword with the byte an address selects replaced (R71). -/
def withByteAt (a : Addr) (h : Half) (b : Byte) : Half :=
  if a.getLsbD 0 then (h.extractLsb' 8 8) ++ b else b ++ (h.setWidth 8 : Byte)

/-- `MemRead(ea, 1)` (R70). -/
def readByte (ea : Word) (s : State) : Res Byte :=
  (readHalfAt .read (evenAddr (programAddr ea)) s).bind fun h t =>
    .ok (byteAt (programAddr ea) h) t

/-- `MemWrite(ea, 2, h)` (R71). -/
def writeHalf (ea : Word) (h : Half) (s : State) : Res Unit :=
  writeHalfAt (evenAddr (programAddr ea)) h s

/-- `MemWrite(ea, 4, v)` (R71): the lower address first. -/
def writeFull (ea : Word) (v : Word) (s : State) : Res Unit :=
  (writeHalfAt (evenAddr (programAddr ea)) (halfOf false v) s).bind fun _ t =>
    writeHalfAt (evenAddr (programAddr ea) + 2#20) (halfOf true v) t

/-- `MemWrite(ea, 1, b)` (R71): only the addressed byte of the halfword changes. -/
def writeByte (ea : Word) (b : Byte) (s : State) : Res Unit :=
  if s.pend.mac then writeTainted (evenAddr (programAddr ea)) s
  else
    match translate .write (evenAddr (programAddr ea)) s with
    | .ok pa =>
      (absReadHalf pa s).bind fun h t => absWriteHalf pa (withByteAt (programAddr ea) h b) t
    | .error cause => .ok () (s.raiseMac cause)

/-- The read and the write of `TS` in one memory cycle, checked as a write (R240, D22): what the
halfword held, and 0xFFFF written back; nothing is written if it faults. -/
def testAndSetAt (va : Addr) (s : State) : Res Half :=
  match translate .write va s with
  | .ok pa =>
    (absReadHalf pa s).bind fun h t => (absWriteHalf pa 0xFFFF#16 t).bind fun _ u => deliver h u
  | .error cause => deliver 0#16 (s.raiseMac cause)

/-! ## Taking an exception -/

/-- The PSW swap of an illegal instruction and of a MAC interrupt (R451, R462, R465): the new PSW and
location come from absolute memory; the old ones go to registers 14 and 15 of the new PSW's set. -/
def swapToRegisters (pswAt pcAt saved : Addr) (s : State) : Res Unit :=
  (absReadFull pswAt s).bind fun newPsw t =>
    (absReadFull pcAt t).bind fun newPc u =>
      enterAt (pcOfImage newPc)
        (((u.setPsw (Psw.ofImage newPsw)).setReg 14#4 s.psw.image).setReg 15#4 (pcImage saved))

/-- The location an illegal instruction at `a` saves (R462, D13). -/
def illegalSavedPc (p : Config.Params) (a : Addr) : Addr :=
  match p.illegalSavedPc with
  | .current => a
  | .afterFirst => a + 2#20

/-- `raise IllegalInstruction` for the instruction at s.pc (R462). -/
def takeIllegal (s : State) : Out :=
  (swapToRegisters 0x30#20 0x34#20 (illegalSavedPc s.params s.pc) s).out

/-- The location a MAC interrupt saves: `a` the address of the instruction, `left` where it would have
left the program counter (R465, D14). -/
def macSavedPc (p : Config.Params) (a left : Addr) : Addr :=
  match p.macSavedPc with
  | .next => left
  | .current => a

/-- Take the MAC interrupt (R465). The pending condition is reset when the interrupt is taken, so that a
status bit left set raises no further interrupt: when it is reset is not stated, R458 names only the
microcode's RESMAC (DESIGN CHOICE, log 22). -/
def takeMac (saved : Addr) (s : State) : Out :=
  (swapToRegisters 0x90#20 0x94#20 saved ((s.setMacPending false).setMacWaiting false)).out

/-- Is a machine malfunction, rank 3, enabled, be it pending or the parity error of the instruction that
ends (R458)? -/
def State.malfunctionDue (s : State) : Bool :=
  s.psw.m && (s.pend.parityError || s.pend.powerRestored || s.parityBreak.any fun b => b.latched)

/-- The end of an instruction with a MAC fault that leaves the program counter at `left`: the MAC interrupt,
rank 4, is taken, or waits for a machine malfunction (R458, R465, log 24). -/
def endWithMac (saved left : Addr) (s : State) : Out :=
  if s.malfunctionDue then .next (((s.setMacPending false).setMacWaiting true).setPc (evenAddr left))
  else takeMac saved s

/-- The MAC interrupt of a fault on the fetch of the instruction at s.pc (R465): under `next` the
saved location is unspecified. -/
def takeMacOnFetch (s : State) : Out :=
  let saved := macSavedPc s.params s.pc (s.free.setWidth 20)
  endWithMac saved saved s.tick

/-- The end of an instruction that began at `a`: if one of its accesses faulted, with the MAC interrupt
(R459, R465). -/
def finish (a : Addr) (r : Res Unit) : Out :=
  match r with
  | .ok _ s => if s.pend.mac then endWithMac (macSavedPc s.params a s.pc) s.pc s else .next s
  | .fault f => .fault f
  | .refused r => .refused r

/-- The start of an instruction: none of its accesses has faulted. -/
def State.begin (s : State) : State := s.setMacPending false

/-- The next sequential address (R25). -/
def nextAddr (a : Addr) (len : Nat) : Addr := a + BitVec.ofNat 20 len

/-- An instruction of `len` bytes that does not transfer control (R25). -/
def sequential (len : Nat) (body : State → Res Unit) (s : State) : Out :=
  finish s.pc ((body s.begin).bind fun _ t => .ok () (t.setPc (nextAddr s.pc len)))

/-- An instruction that says itself where the program counter goes. -/
def transfer (body : State → Res Unit) (s : State) : Out := finish s.pc (body s.begin)

/-- A privileged instruction (R455): with psw.P = 1 it is illegal, before any other effect. -/
def privileged (meaning : State → Out) (s : State) : Out :=
  if s.psw.p then takeIllegal s else meaning s

/-- The machine malfunction interrupt (R460, D24): a parity error, or a power restore, for which the
old PSW and location stored are unspecified (U31). -/
def takeMachineMalfunction (parity : Bool) (s : State) : Out :=
  let oldPsw := if parity then s.psw.image else s.free
  let oldPc := if parity then pcImage s.pc else s.tick.free
  ((absWriteFull 0x20#20 oldPsw (if parity then s else s.tick.tick)).bind fun _ t =>
    (absWriteFull 0x24#20 oldPc t).bind fun _ u =>
      (absReadFull 0x38#20 u).bind fun newPsw v =>
        (absReadFull 0x3C#20 v).bind fun newPc w =>
          enterAt (pcOfImage newPc)
            { w with
              psw := { Psw.ofImage newPsw with c := false, v := false, g := parity, l := false }
              pend :=
                if parity then { w.pend with parityError := false }
                else { w.pend with powerRestored := false } }).out

/-- The PSW 0x2000 of an I/O interrupt routine (R470). -/
def Psw.ioInterrupt : Psw := Psw.ofBits 0x2000#16

/-- The PSW 0x6200 of a sync interrupt handed on as a conventional one (R476, C17). -/
def Psw.syncInterrupt : Psw := Psw.ofBits 0x6200#16

/-- The conventional I/O interrupt entry (R470). -/
def takeIo (newPsw : Psw) (dev : Half) (s : State) : Out :=
  ((absReadHalf (0xD0#20 + ((dev.setWidth 8 : Byte).setWidth 20) * 2#20) s).bind fun entry t =>
    enterAt (entry.setWidth 20)
      ((((t.setPsw newPsw).setRegIn 0#4 0#4 s.psw.image).setRegIn 0#4 1#4 (pcImage s.pc)).setRegIn
        0#4 2#4 (dev.setWidth 32))).out

/-- The entry to the async timer routine (R480, D41): (psw, pc) of the interrupted program go to
registers 0 and 1 of set D, and control to the location in its register 15, in that set. -/
def enterTimer (s : State) : Res Unit :=
  enterAt (pcOfImage (s.regIn 13#4 15#4))
    (((s.setRegIn 13#4 0#4 s.psw.image).setRegIn 13#4 1#4 (pcImage s.pc)).setPsw
      { s.psw with rs := 13#4 })

/-- Is the timer routine to be entered: register set F, and the count in register 14 of set D negative
(R480)? -/
def State.timerDue (s : State) : Bool := s.psw.rs == 15#4 && (s.regIn 13#4 14#4).msb

/-! ## Transfers of control -/

/-- A taken jump to T (R274): an odd T is refused (D18, log 20); with psw.T = 1 the jump is the trace trap
(R485). -/
def jumpTo (target : Addr) (s : State) : Res Unit :=
  if target.getLsbD 0 then .refused .oddProgramCounter
  else if s.psw.t then
    (writeFull 0x14#32 (pcImage target) s).bind fun _ t =>
      (writeFull 0x10#32 s.psw.image t).bind fun _ u =>
        (readFull 0x18#32 (u.writeTrace false)).bind fun w v =>
          loadPc (pcOfImage w) v
  else .ok () (s.setPc target)

/-- The return from an exception, shared by LPSW and LPSWR (R331, R333, R330): the PSW and the location
of the two images; on an async-enhanced Engine, with the timer due, its routine is entered (R337 item
7, R480). -/
def loadPswAndPc (pswWord pcWord : Word) (s : State) : Res Unit :=
  (loadPc (pcOfImage pcWord) (s.loadPsw (Psw.ofImage pswWord))).bind fun _ t =>
    if t.params.enhancedAsync && t.timerDue && !t.pend.mac then enterTimer t else .ok () t

/-! ## The multiplexor bus (R360, log 21) -/

/-- One operation on the bus: the device's answer, timeout when the environment gives none. -/
def busTransact (op : BusOp) (s : State) : BusAnswer × State :=
  (s.busIn.head?.getD .timeout, { s with busIn := s.busIn.tail, busOut := op :: s.busOut })

/-! ## Bodies the spec does not give (R370 to R392, log 33) -/

/-- Where in present main memory a store of the program to an address goes: through the MAC with psw.RP =
1 (R36, R93). -/
def State.programPlace (s : State) (a : Addr) : Option Addr :=
  match translate .write (evenAddr a) s with
  | .ok pa => if isPlain s.params pa then some pa else none
  | .error _ => none

/-- Where in present main memory an absolute address is. -/
def State.absolutePlace (s : State) (a : Addr) : Option Addr :=
  if isPlain s.params a then some a else none

/-- Memory with halfwords written at the places some addresses have; one that has none is dropped. -/
def Memory.scribbled (place : Addr → Option Addr) : List (Addr × Half) → Memory → Memory
  | [], m => m
  | (a, h) :: rest, m =>
    Memory.scribbled place rest
      (match place a with
      | some pa => m.setHalf pa h
      | none => m)

/-- A state whose memory an undescribed body may have written, wherever the program may store. -/
def State.scribble (s : State) : State :=
  { s with mem := Memory.scribbled s.programPlace (Config.freeStores s.freeIx) s.mem,
           freeIx := s.freeIx + 1 }

/-- A state in which the halfword at a program address holds a free value, if it is one of main
memory. -/
def State.openHalf (s : State) (ea : Word) : State :=
  { s with mem := Memory.scribbled s.programPlace [(programAddr ea, s.free.setWidth 16)] s.mem,
           freeIx := s.freeIx + 1 }

/-- A state in which the registers a test picks hold free values. -/
def State.freeRegs (s : State) (picked : Nat → Bool) : State :=
  { s with
    regs := s.regs.mapFinIdx fun k v _ => if picked k then Config.freeRegister s.freeIx k else v
    freeIx := s.freeIx + 1 }

/-- A register written with a free value. -/
def State.freeReg (s : State) (r : Reg) : State := s.tick.setReg r s.free

/-- The condition code written with free bits. -/
def State.freeCc (s : State) : State := s.tick.setFlags s.freeFlags

end Sys2Proof.Machine
end

