-- ==== Sys2Proof/Machine/Async.lean ====
section
/-! DEFINITION. The terms and the storage of the async microcode (`46_special.md` R400 to R405), and what
SBOD, GCHAR and XMIT do to them (R371, R372, R374). -/

namespace Sys2Proof.Machine

/-! ## Terms (R400, R401) -/

/-- LAREG: the lowest register of sets 3 and 4 that is used (R401). -/
def asyncLowRegister (p : Config.Params) : Nat := 16 - p.asyncGroups

/-- F: the bytes of a frame (R401). -/
def asyncFrameBytes (p : Config.Params) : Nat := 12 * p.asyncGroups

/-- F5 (R401). -/
def asyncFiveFrames (p : Config.Params) : Nat := 5 * asyncFrameBytes p

/-- AS.SIZ: the bytes of the ring, `$A(53+60)*F+30*F5` (R401). The `$A` is read as marking the numbers in
its parentheses alone, so that 30 is hexadecimal, as every number without the mark is (DEDUCED, log 54). -/
def asyncRingBytes (p : Config.Params) : Nat := 113 * asyncFrameBytes p + 0x30 * asyncFiveFrames p

/-- OFFSET: the displacement between SBX and RGX that software starts with (R401). -/
def asyncOffset (p : Config.Params) : Int := 53 * asyncFrameBytes p - asyncRingBytes p

/-- ADA: the address of the first async card: 0x91 for four cards or less, of two groups each, as the
listing's test of 8 groups suggests, else 0xC1 (R401; DEDUCED, log 54). -/
def asyncCardAddress (p : Config.Params) : Nat := if p.asyncGroups ≤ 8 then 0x91 else 0xC1

/-- Two halfword constants packed in a register (R400). -/
def packed (left right : Nat) : Word := (BitVec.ofNat 16 left : Half) ++ (BitVec.ofNat 16 right : Half)

/-- Do the constants in register sets 1 and 2 stand as the software must initialise them (R400, R401,
R407), with AS.CTL, AS.LCT, the ring and its end in their order? -/
def State.asyncReady (s : State) : Bool :=
  let n := s.params.asyncGroups
  let size : Word := BitVec.ofNat 32 (asyncRingBytes s.params)
  let ctl := s.regIn 1#4 5#4
  let end_ := ctl + 0x600#32 + size
  let five := asyncFiveFrames s.params
  s.regIn 1#4 10#4 == packed (2 * n) (4 * n) && s.regIn 1#4 11#4 == packed (6 * n) (8 * n) &&
    s.regIn 1#4 12#4 == packed (10 * n) (12 * n) && s.regIn 1#4 13#4 == size &&
    s.regIn 1#4 14#4 == end_ &&
    s.regIn 1#4 15#4 ==
      packed (if n = 0 then 0x8010 else asyncLowRegister s.params) (asyncCardAddress s.params) &&
    s.regIn 2#4 7#4 == end_ && s.regIn 2#4 10#4 == BitVec.ofNat 32 (asyncLowRegister s.params) &&
    s.regIn 2#4 13#4 == size && s.regIn 2#4 14#4 == packed (4 * five) five &&
    s.regIn 2#4 15#4 == ctl + 0x400#32

/-! ## SBA and TAM (R400, R402) -/

/-- The register of set 3 that holds SBA and TAM of a group: LAREG for the first (R400, R401; DEDUCED, log
33). -/
def tamRegister (p : Config.Params) (group : Nat) : Reg := BitVec.ofNat 4 (asyncLowRegister p + group)

/-- Is TAM of a port on, so that the port is enabled for output (R400, R402)? -/
def State.tamOn (s : State) (port : Nat) : Bool :=
  (s.regIn 3#4 (tamRegister s.params (port / 16))).getMsbD (16 + port % 16)

/-- SBA and TAM of a group with the TAM bit of its port `k` turned off: TAM is the right half (R400). -/
def tamOff (k : Nat) (w : Word) : Word := w &&& ~~~(0x8000#32 >>> k)

/-- Is SBA of a port on, so that the port is enabled for input (R400, R402)? -/
def State.sbaOn (s : State) (port : Nat) : Bool :=
  (s.regIn 3#4 (tamRegister s.params (port / 16))).getMsbD (port % 16)

/-- SBA and TAM of a group with the SBA bit of its port `k` replaced: SBA is the left half (R400). -/
def withSba (k : Nat) (on : Bool) (w : Word) : Word :=
  let m : Word := 0x80000000#32 >>> k
  if on then w ||| m else w &&& ~~~m

/-- SBA of a port replaced, if the port is one of the groups (R402). -/
def State.setSba (s : State) (port : Nat) (on : Bool) : State :=
  if port < 16 * s.params.asyncGroups then
    let r := tamRegister s.params (port / 16)
    s.setRegIn 3#4 r (withSba (port % 16) on (s.regIn 3#4 r))
  else s

/-- The ports of the groups with SBA on. -/
def State.inputPorts (s : State) : List Nat := (List.range (16 * s.params.asyncGroups)).filter s.sbaOn

/-! ## The control storage (R403, log 33) -/

/-- The address of the entry of the control ring, 256 halfwords, at a byte index (R403). -/
def State.controlEntry (s : State) (index : Nat) : Word :=
  s.regIn 1#4 5#4 + BitVec.ofNat 32 (index % 0x200)

/-- The address of the entry of a port in the second array of the control storage (R403). -/
def State.linkEntry (s : State) (port : Nat) : Word :=
  s.regIn 1#4 5#4 + 0x200#32 + BitVec.ofNat 32 (2 * (port % 256))

/-- SBA is turned on again for the ports of a list: an entry is the number of the first, the entry of a port
that of the next, and the list ends at an entry whose sign bit is set (R403). Of the 256 ports at most. -/
def rearmList : Nat → Half → State → Res Unit
  | 0, _, s => .ok () s
  | n + 1, entry, s =>
    if entry.msb then .ok () s
    else
      (readHalf (s.linkEntry entry.toNat) (s.setSba (entry.toNat % 256) true)).bind fun next t =>
        rearmList n next t

/-- The ports that the entry at a byte index of the control ring links are turned on again, and the entry
is emptied: it holds an end of list, no more of it is stated (DEDUCED, log 33). -/
def rearm (index : Nat) (s : State) : Res Unit :=
  (readHalf (s.controlEntry index) s).bind fun entry t =>
    if entry.msb then .ok () t
    else
      (rearmList 256 entry t).bind fun _ u =>
        writeHalf (s.controlEntry index) (0x8000#16 ||| u.free.setWidth 16) u.tick

/-- The offset from the beginning of the ring that an index of set 1 names; indices count from the end
(R400). -/
def State.ringOffset (s : State) (index : Word) : Nat :=
  (index + s.regIn 1#4 13#4).toNat % asyncRingBytes s.params

/-- F/3, by which SBX advances (R400, R403). -/
def asyncThird (p : Config.Params) : Nat := 4 * p.asyncGroups

/-- SBX, register 7 of set 1, advances by F/3 round the ring, and the control index, register 4, by 2
(R400, R403). -/
def State.advanceSbx (s : State) : State :=
  let place := (s.ringOffset (s.regIn 1#4 7#4) + asyncThird s.params) % asyncRingBytes s.params
  (s.setRegIn 1#4 7#4 (BitVec.ofNat 32 place - s.regIn 1#4 13#4)).setRegIn 1#4 4#4
    (BitVec.ofNat 32 (((s.regIn 1#4 4#4).toNat + 2) % 0x200))

/-- The steps of F/3 by which SBX is behind RGX1, register 8 of set 1, its upper limit, a character of the
lowest rate behind RGX (R371, R400). -/
def State.stepsBehind (s : State) : Nat :=
  (s.ringOffset (s.regIn 1#4 8#4) + asyncRingBytes s.params - s.ringOffset (s.regIn 1#4 7#4)) %
    asyncRingBytes s.params / asyncThird s.params

/-- SBX advances by a number of steps. Each serves one entry of the control ring, that of the index before
it or after it: which of the two is open (DEDUCED, log 33). -/
def scanSteps (after : Bool) : Nat → State → Res Unit
  | 0, s => .ok () s
  | n + 1, s =>
    (rearm ((s.regIn 1#4 4#4).toNat + if after then 2 else 0) s).bind fun _ t =>
      scanSteps after n t.advanceSbx

/-- The registers SBOD and GCHAR work in: 0 to 3 of set 1 and 0 to 4 of set 2 (R400). -/
def workedByAsync (k : Nat) : Bool := 16 ≤ k && k < 20 || 32 ≤ k && k < 37

/-! ## The tables and the ring (R402, R405, log 33) -/

/-- The address of an index's entry in the table that is the `n`th after XLNGTH, of 16 halfwords each: XLNGTH
itself, then BLNGTH and CLNGTH (R405). -/
def State.tableAddr (s : State) (n : Nat) (rate : Word) : Word :=
  s.regIn 2#4 12#4 + BitVec.ofNat 32 (0x20 * n) + 2#32 * rate

/-- The address of the character's width in XLNGTH (R405). -/
def State.widthAddr (s : State) (rate : Word) : Word := s.tableAddr 0 rate

/-- The address of a baud width in BLNGTH (R405). -/
def State.baudAddr (s : State) (rate : Word) : Word := s.tableAddr 1 rate

/-- The address, in CLNGTH, of the distance from the beginning of the start-baud to the center of the first
data-baud (R405). -/
def State.centerAddr (s : State) (rate : Word) : Word := s.tableAddr 2 rate

/-- The program address of the halfword of a group at an offset in the ring, in the area that holds the
offset; offsets wrap round the ring (R402). -/
def State.ringCell (s : State) (group offset : Nat) : Word :=
  let area := 2 * s.params.asyncGroups
  s.regIn 2#4 7#4 - s.regIn 2#4 13#4 +
    BitVec.ofNat 32 (offset % asyncRingBytes s.params / area * area + 2 * group)

/-! ## The input of a character (R374, log 33) -/

/-- Does all that an instruction for one port expects stand as R372, R374 and R400 say: the constants of the
async microcode, a port of one of its groups in RP (14), twice that in RP2 (13), and an index of the tables
of R405? -/
def State.portReady (s : State) (rate : Word) : Bool :=
  s.asyncReady && decide ((s.reg 14#4).toNat < 16 * s.params.asyncGroups) &&
    s.reg 13#4 == s.reg 14#4 + s.reg 14#4 && decide (rate.toNat < 16)

/-- The address of a receiver character length in RCHAR (R405). -/
def State.receiveAddr (s : State) (rate : Word) : Word := s.regIn 2#4 11#4 + 2#32 * rate

/-- The port is linked into the control ring, so that SBOD turns its SBA on again when the character is
over: into the entry that lies its length in RCHAR ahead of the control index, or the one after, at the
head of the list there (R374, R403, R405; DEDUCED, log 33). -/
def linkPort (port : Nat) (length : Half) (s : State) : Res Unit :=
  let entry := s.controlEntry ((s.regIn 1#4 4#4).toNat + length.toNat + if s.freeBit then 2 else 0)
  (readHalf entry s.tick).bind fun head t =>
    (writeHalf (s.linkEntry port) head t).bind fun _ u => writeHalf entry (BitVec.ofNat 16 port) u

/-- The cells of a character's samples, for the group of its port: the centers of the eight data-bauds, and of
the stop-baud after them, from the index of the start-baud that SBOD found on, register 3 of set 1 (R374, R400,
R405). Whether an index names the area that begins or the one that ends there is open (DEDUCED, log 33). -/
def State.sampleCells (s : State) (ends : Bool) (group center baud : Nat) : List Word :=
  let start := s.ringOffset (s.regIn 1#4 3#4) + if ends then asyncRingBytes s.params - 2 * s.params.asyncGroups
    else 0
  (List.range 9).map fun k => s.ringCell group (start + center + k * baud)

/-- A character of eight data-bauds, marking being 1, whose first is the right or the left bit; which of the two
is open (DEDUCED, log 33). -/
def charOf (rightFirst : Bool) (bauds : List Bool) : Byte :=
  (List.range 8).foldr (fun k c => (c <<< 1) ||| if bauds.getD (if rightFirst then k else 7 - k) true then 1#8
    else 0#8) 0#8

/-- A word with a character somewhere in it: the position in register 0 is open (R374). -/
def withChar (w : Word) (place : Nat) (c : Byte) : Word :=
  let m : Word := 0xFF#32 <<< place
  (w &&& ~~~m) ||| (c.setWidth 32 <<< place)

/-! ## The output of a character (R372, log 33) -/

/-- Does all that XMIT expects stand, with the rate in register 2 (R372)? -/
def State.xmitReady (s : State) : Bool := s.portReady (s.reg 2#4)

/-- The address of LCTIME of the port (R404). -/
def State.lctimeAddr (s : State) : Word := s.regIn 2#4 15#4 + s.reg 13#4

/-- RGX5 as an offset from the beginning of the ring (R400, R404). -/
def State.ringStart (s : State) : Nat := (s.regIn 2#4 9#4 + s.regIn 2#4 13#4).toNat

/-- RGX5 as LCTIME is compared with it: the F5 count of register 8 of set 2, "used by XMIT1 w/LCTIME for
char-start", or the offset of the index in register 9; which of the two is open (DEDUCED, log 33). -/
def State.outputClock (s : State) (counted : Bool) : Nat :=
  if counted then (s.regIn 2#4 8#4).toNat else s.ringStart

/-- A time as LCTIME holds it: whether it wraps with the ring or with its 16 bits is open (log 33). -/
def ringTime (p : Config.Params) (wraps : Bool) (time : Nat) : Half :=
  BitVec.ofNat 16 (if wraps then time % asyncRingBytes p else time)

/-- How far past RGX5 the character begins: at LCTIME if that is RGX5, RGX5 + F5 or RGX5 + 2 * F5, else at
RGX5 (R372). -/
def charDelay (p : Config.Params) (wraps : Bool) (clock : Nat) (lctime : Half) : Nat :=
  let five := asyncFiveFrames p
  if lctime = ringTime p wraps clock then 0
  else if lctime = ringTime p wraps (clock + five) then five
  else if lctime = ringTime p wraps (clock + 2 * five) then 2 * five
  else 0

/-- A halfword with bit `k` from the left replaced. -/
def withBit (k : Nat) (b : Bool) (h : Half) : Half :=
  let m : Half := 0x8000#16 >>> k
  if b then h ||| m else h &&& ~~~m

/-- One bit of the halfword at a program address is replaced. -/
def writeBit (ea : Word) (k : Nat) (b : Bool) (s : State) : Res Unit :=
  (readHalf ea s).bind fun h t => writeHalf ea (withBit k b h) t

/-- Bits of several halfwords are replaced. -/
def writeBits (k : Nat) : List (Word × Bool) → State → Res Unit
  | [], s => .ok () s
  | (ea, b) :: rest, s => (writeBit ea k b s).bind fun _ t => writeBits k rest t

/-- The bauds of a character: a start-baud, spacing, eight data-bauds, a stop-baud, marking. That there are ten
follows from "no more than ten (worst case) memory references" (R372; DEDUCED, log 33). -/
def charBauds (rightFirst : Bool) (c : Byte) : List Bool :=
  false :: ((List.range 8).map fun k => c.getLsbD (if rightFirst then k else 7 - k)) ++ [true]

/-- The bauds at whose beginning the line changes its state; it is marking before the character (R372). -/
def charEdges (bauds : List Bool) : List Nat :=
  (List.range bauds.length).filter fun j => bauds.getD j true != (true :: bauds).getD j true

/-- The first offset, from one on, at which an area of phase 0 or 3 begins: output occurs in these alone, half a
frame apart (R402). -/
def outputOffset (p : Config.Params) (offset : Nat) : Nat :=
  let half := 6 * p.asyncGroups
  (offset + half - 1) / half * half

/-- The cells of a character's transitions, each marked by a 1, for the group of its port: at the edges of its
bauds. Whether those past the character's end are marked is open (R372, R402, R405; log 33). -/
def State.transitions (s : State) (group start width baud : Nat) (past : Bool) (bauds : List Bool) :
    List (Word × Bool) :=
  ((charEdges bauds).filter fun j => past || decide (j * baud < width)).map fun j =>
    (s.ringCell group (outputOffset s.params (start + j * baud)), true)

/-- The phase 5 cell of a frame, the sixth area, at an offset in the ring; which frame is open (R372). -/
def State.phaseFiveCell (s : State) (group frame : Nat) : Word :=
  s.ringCell group (asyncFrameBytes s.params * frame + 10 * s.params.asyncGroups)

/-- TAM of the port is turned off, and a bit in a phase 5 cell turns it on again (R372). -/
def turnTamOff (port : Nat) (s : State) : Res Unit :=
  let r := tamRegister s.params (port / 16)
  (writeBit (s.phaseFiveCell (port / 16) s.free.toNat) (port % 16) true s.tick).bind fun _ t =>
    .ok () (t.tick.setRegIn 3#4 r (if t.pend.mac then t.free else tamOff (port % 16) (t.regIn 3#4 r)))

/-- The registers XMIT works in: those but the place of the start-baud that SBOD found (R400). -/
def workedByXmit (k : Nat) : Bool := workedByAsync k && k != 19

/-- XMIT with all as it expects (R372). The transitions of the character in register 0, its low byte (DEDUCED,
log 33), are written first and LCTIME last; the registers R1 and R2 name, the working registers and the
condition code are open. -/
def transmit (r1 r2 : Reg) (s : State) : Res Unit :=
  (readHalf s.lctimeAddr s).bind fun lctime t =>
    (readHalf (s.widthAddr (s.reg 2#4)) t).bind fun w t' =>
      (readHalf (s.baudAddr (s.reg 2#4)) t').bind fun baud u =>
        let port := (s.reg 14#4).toNat
        let clock := s.outputClock u.freeBit
        let delay := charDelay s.params (u.free.getLsbD 1) clock lctime
        let bauds := charBauds (u.free.getLsbD 2) ((s.reg 0#4).setWidth 8)
        let v := (((u.tick.freeRegs workedByXmit).freeReg r1).freeReg r2).freeCc
        (writeBits (port % 16)
          (s.transitions (port / 16) (s.ringStart + delay) w.toNat baud.toNat (u.free.getLsbD 3) bauds)
          v.tick).bind fun _ x =>
          (if 3 * asyncFiveFrames s.params < delay + w.toNat then turnTamOff port x else .ok () x).bind
            fun _ y => writeHalf s.lctimeAddr (ringTime s.params (u.free.getLsbD 1) (clock + delay + w.toNat)) y

end Sys2Proof.Machine
end

