-- ==== Sys2Proof/Syntax.lean ====
section
/-! DEFINITION. The instructions: one constructor for each mnemonic of `spec/opcode_table.json`
(`30_encoding.md` R110 to R119, R133, R140). -/

namespace Sys2Proof

/-- The operand of the RX formats (R117 to R120): which of the three forms, and its fields. -/
inductive RxAddr where
  /-- RX1 (R117): index register and a 14-bit address. -/
  | rx1 (x2 : Reg) (a2 : BitVec 14)
  /-- RX2 (R118): index register and a 15-bit displacement from the incremented location counter. -/
  | rx2 (x2 : Reg) (d2 : BitVec 15)
  /-- RX3 (R119): two index registers and a 24-bit address. -/
  | rx3 (x2 x2p : Reg) (a2 : BitVec 24)
  deriving DecidableEq, Repr

/-- Bytes of an RX instruction with this operand: 4, 4, 6 (R111). -/
def RxAddr.length : RxAddr → Nat
  | .rx1 .. => 4
  | .rx2 .. => 4
  | .rx3 .. => 6

/-- An instruction with its fields. The second field of RR is R2, of SF is N, of RX the operand, of
RI1 and RI2 the index X2 and the immediate I2; the first is R1, or the mask M of a jump on condition
(R260). -/
inductive Instr where
  /-- JALR, op 01, RR (R271). -/
  | jalr (r1 : Reg) (r2 : Reg)
  /-- JTR, op 02, RR (R263). -/
  | jtr (mask : Nib) (r2 : Reg)
  /-- JFR, op 03, RR (R264). -/
  | jfr (mask : Nib) (r2 : Reg)
  /-- NR, op 04, RR (R205). -/
  | nr (r1 : Reg) (r2 : Reg)
  /-- CLR, op 05, RR (R301). -/
  | clr (r1 : Reg) (r2 : Reg)
  /-- OR, op 06, RR (R210). -/
  | or (r1 : Reg) (r2 : Reg)
  /-- XR, op 07, RR (R215). -/
  | xr (r1 : Reg) (r2 : Reg)
  /-- LR, op 08, RR (R156). -/
  | lr (r1 : Reg) (r2 : Reg)
  /-- CR, op 09, RR (R308). -/
  | cr (r1 : Reg) (r2 : Reg)
  /-- AR, op 0A, RR (R285). -/
  | ar (r1 : Reg) (r2 : Reg)
  /-- SR, op 0B, RR (R294). -/
  | sr (r1 : Reg) (r2 : Reg)
  /-- MHR, op 0C, RR (R313). -/
  | mhr (r1 : Reg) (r2 : Reg)
  /-- DHR, op 0D, RR (R318). -/
  | dhr (r1 : Reg) (r2 : Reg)
  /-- RMA1, op 0E, RR (R389). -/
  | rma1 (r1 : Reg) (r2 : Reg)
  /-- RMA2, op 0F, RR (R390). -/
  | rma2 (r1 : Reg) (r2 : Reg)
  /-- SRLS, op 10, SF (R224). -/
  | srls (r1 : Reg) (n : Nib)
  /-- SLLS, op 11, SF (R222). -/
  | slls (r1 : Reg) (n : Nib)
  /-- LHR, op 12, RR (R320). -/
  | lhr (r1 : Reg) (r2 : Reg)
  /-- SBOD, op 13, RR (R371). -/
  | sbod (r1 : Reg) (r2 : Reg)
  /-- XMIT, op 14, RR (R372). -/
  | xmit (r1 : Reg) (r2 : Reg)
  /-- SPM, op 15, RR (R373). -/
  | spm (r1 : Reg) (r2 : Reg)
  /-- GCHAR, op 16, RR (R374). -/
  | gchar (r1 : Reg) (r2 : Reg)
  /-- LPSWR, op 18, RR (R333). -/
  | lpswr (r1 : Reg) (r2 : Reg)
  /-- MR, op 1C, RR (R311). -/
  | mr (r1 : Reg) (r2 : Reg)
  /-- DR, op 1D, RR (R316). -/
  | dr (r1 : Reg) (r2 : Reg)
  /-- JTBS, op 20, SF (R265). -/
  | jtbs (mask : Nib) (n : Nib)
  /-- JTFS, op 21, SF (R266). -/
  | jtfs (mask : Nib) (n : Nib)
  /-- JFBS, op 22, SF (R267). -/
  | jfbs (mask : Nib) (n : Nib)
  /-- JFFS, op 23, SF (R268). -/
  | jffs (mask : Nib) (n : Nib)
  /-- LIS, op 24, SF (R157). -/
  | lis (r1 : Reg) (n : Nib)
  /-- LCS, op 25, SF (R158). -/
  | lcs (r1 : Reg) (n : Nib)
  /-- AIS, op 26, SF (R286). -/
  | ais (r1 : Reg) (n : Nib)
  /-- SIS, op 27, SF (R295). -/
  | sis (r1 : Reg) (n : Nib)
  /-- JFFO, op 31, SF (R272). -/
  | jffo (r1 : Reg) (n : Nib)
  /-- JFFOH, op 33, SF (R273). -/
  | jffoh (r1 : Reg) (n : Nib)
  /-- EXHR, op 34, RR (R164). -/
  | exhr (r1 : Reg) (r2 : Reg)
  /-- SCAN, op 35, RR (R381). -/
  | scan (r1 : Reg) (r2 : Reg)
  /-- ALIGN, op 36, RR (R382). -/
  | align (r1 : Reg) (r2 : Reg)
  /-- CKSUM, op 37, RR (R383). -/
  | cksum (r1 : Reg) (r2 : Reg)
  /-- GCI, op 38, RR (R386). -/
  | gci (r1 : Reg) (r2 : Reg)
  /-- WCI, op 39, RR (R387). -/
  | wci (r1 : Reg) (r2 : Reg)
  /-- CBCT, op 3A, RR (R388). -/
  | cbct (r1 : Reg) (r2 : Reg)
  /-- RTD1, op 3B, RR (R391). -/
  | rtd1 (r1 : Reg) (r2 : Reg)
  /-- RTD2, op 3C, RR (R392). -/
  | rtd2 (r1 : Reg) (r2 : Reg)
  /-- ARAND, op 3E, RR (R216). -/
  | arand (r1 : Reg) (r2 : Reg)
  /-- COPY, op 3F, RR (R175). -/
  | copy (r1 : Reg) (r2 : Reg)
  /-- STH, op 40, RX (R167). -/
  | sth (r1 : Reg) (rx : RxAddr)
  /-- JAL, op 41, RX (R270). -/
  | jal (r1 : Reg) (rx : RxAddr)
  /-- JT, op 42, RX (R261). -/
  | jt (mask : Nib) (rx : RxAddr)
  /-- JF, op 43, RX (R262). -/
  | jf (mask : Nib) (rx : RxAddr)
  /-- NH, op 44, RX (R202). -/
  | nh (r1 : Reg) (rx : RxAddr)
  /-- CLH, op 45, RX (R298). -/
  | clh (r1 : Reg) (rx : RxAddr)
  /-- OH, op 46, RX (R207). -/
  | oh (r1 : Reg) (rx : RxAddr)
  /-- XH, op 47, RX (R212). -/
  | xh (r1 : Reg) (rx : RxAddr)
  /-- LH, op 48, RX (R153). -/
  | lh (r1 : Reg) (rx : RxAddr)
  /-- CH, op 49, RX (R305). -/
  | ch (r1 : Reg) (rx : RxAddr)
  /-- AH, op 4A, RX (R282). -/
  | ah (r1 : Reg) (rx : RxAddr)
  /-- SH, op 4B, RX (R291). -/
  | sh (r1 : Reg) (rx : RxAddr)
  /-- MH, op 4C, RX (R312). -/
  | mh (r1 : Reg) (rx : RxAddr)
  /-- DH, op 4D, RX (R317). -/
  | dh (r1 : Reg) (rx : RxAddr)
  /-- ST, op 50, RX (R166). -/
  | st (r1 : Reg) (rx : RxAddr)
  /-- AM, op 51, RX (R287). -/
  | am (r1 : Reg) (rx : RxAddr)
  /-- N, op 54, RX (R201). -/
  | n (r1 : Reg) (rx : RxAddr)
  /-- CL, op 55, RX (R297). -/
  | cl (r1 : Reg) (rx : RxAddr)
  /-- O, op 56, RX (R206). -/
  | o (r1 : Reg) (rx : RxAddr)
  /-- X, op 57, RX (R211). -/
  | x (r1 : Reg) (rx : RxAddr)
  /-- L, op 58, RX (R152). -/
  | l (r1 : Reg) (rx : RxAddr)
  /-- C, op 59, RX (R304). -/
  | c (r1 : Reg) (rx : RxAddr)
  /-- A, op 5A, RX (R281). -/
  | a (r1 : Reg) (rx : RxAddr)
  /-- S, op 5B, RX (R290). -/
  | s (r1 : Reg) (rx : RxAddr)
  /-- M, op 5C, RX (R310). -/
  | m (r1 : Reg) (rx : RxAddr)
  /-- D, op 5D, RX (R315). -/
  | d (r1 : Reg) (rx : RxAddr)
  /-- AHM, op 61, RX (R288). -/
  | ahm (r1 : Reg) (rx : RxAddr)
  /-- LHL, op 73, RX (R160). -/
  | lhl (r1 : Reg) (rx : RxAddr)
  /-- TBT, op 74, RX (R246). -/
  | tbt (r1 : Reg) (rx : RxAddr)
  /-- SBT, op 75, RX (R247). -/
  | sbt (r1 : Reg) (rx : RxAddr)
  /-- RBT, op 76, RX (R248). -/
  | rbt (r1 : Reg) (rx : RxAddr)
  /-- CBT, op 77, RX (R249). -/
  | cbt (r1 : Reg) (rx : RxAddr)
  /-- SRHLS, op 90, SF (R228). -/
  | srhls (r1 : Reg) (n : Nib)
  /-- SLHLS, op 91, SF (R226). -/
  | slhls (r1 : Reg) (n : Nib)
  /-- STBR, op 92, RR (R170). -/
  | stbr (r1 : Reg) (r2 : Reg)
  /-- LBR, op 93, RR (R163). -/
  | lbr (r1 : Reg) (r2 : Reg)
  /-- EXBR, op 94, RR (R165). -/
  | exbr (r1 : Reg) (r2 : Reg)
  /-- EPSR, op 95, RR (R334). -/
  | epsr (r1 : Reg) (r2 : Reg)
  /-- CIO, op 99, RR (R351). -/
  | cio (r1 : Reg) (r2 : Reg)
  /-- WDR, op 9A, RR (R357). -/
  | wdr (r1 : Reg) (r2 : Reg)
  /-- RDR, op 9B, RR (R355). -/
  | rdr (r1 : Reg) (r2 : Reg)
  /-- SSR, op 9D, RR (R352). -/
  | ssr (r1 : Reg) (r2 : Reg)
  /-- OCR, op 9E, RR (R354). -/
  | ocr (r1 : Reg) (r2 : Reg)
  /-- LPSW, op C2, RX (R331). -/
  | lpsw (r1 : Reg) (rx : RxAddr)
  /-- THI, op C3, RI1 (R218). -/
  | thi (r1 : Reg) (x2 : Reg) (i2 : Half)
  /-- NHI, op C4, RI1 (R204). -/
  | nhi (r1 : Reg) (x2 : Reg) (i2 : Half)
  /-- CLHI, op C5, RI1 (R300). -/
  | clhi (r1 : Reg) (x2 : Reg) (i2 : Half)
  /-- OHI, op C6, RI1 (R209). -/
  | ohi (r1 : Reg) (x2 : Reg) (i2 : Half)
  /-- XHI, op C7, RI1 (R214). -/
  | xhi (r1 : Reg) (x2 : Reg) (i2 : Half)
  /-- LHI, op C8, RI1 (R155). -/
  | lhi (r1 : Reg) (x2 : Reg) (i2 : Half)
  /-- CHI, op C9, RI1 (R307). -/
  | chi (r1 : Reg) (x2 : Reg) (i2 : Half)
  /-- AHI, op CA, RI1 (R284). -/
  | ahi (r1 : Reg) (x2 : Reg) (i2 : Half)
  /-- SHI, op CB, RI1 (R293). -/
  | shi (r1 : Reg) (x2 : Reg) (i2 : Half)
  /-- SRHL, op CC, RX (R227). -/
  | srhl (r1 : Reg) (rx : RxAddr)
  /-- SLHL, op CD, RX (R225). -/
  | slhl (r1 : Reg) (rx : RxAddr)
  /-- STM, op D0, RX (R168). -/
  | stm (r1 : Reg) (rx : RxAddr)
  /-- LM, op D1, RX (R161). -/
  | lm (r1 : Reg) (rx : RxAddr)
  /-- STB, op D2, RX (R169). -/
  | stb (r1 : Reg) (rx : RxAddr)
  /-- LB, op D3, RX (R162). -/
  | lb (r1 : Reg) (rx : RxAddr)
  /-- CLB, op D4, RX (R302). -/
  | clb (r1 : Reg) (rx : RxAddr)
  /-- UPSW, op D5, RX (R332). -/
  | upsw (r1 : Reg) (rx : RxAddr)
  /-- WD, op DA, RX (R356). -/
  | wd (r1 : Reg) (rx : RxAddr)
  /-- OC, op DE, RX (R353). -/
  | oc (r1 : Reg) (rx : RxAddr)
  /-- TS, op E0, RX (R240). -/
  | ts (r1 : Reg) (rx : RxAddr)
  /-- SVC, op E1, RX (R336). -/
  | svc (r1 : Reg) (rx : RxAddr)
  /-- LA, op E6, RX (R159). -/
  | la (r1 : Reg) (rx : RxAddr)
  /-- RRL, op EA, RX (R230). -/
  | rrl (r1 : Reg) (rx : RxAddr)
  /-- RLL, op EB, RX (R229). -/
  | rll (r1 : Reg) (rx : RxAddr)
  /-- SRL, op EC, RX (R223). -/
  | srl (r1 : Reg) (rx : RxAddr)
  /-- SLL, op ED, RX (R221). -/
  | sll (r1 : Reg) (rx : RxAddr)
  /-- SRA, op EE, RX (R319). -/
  | sra (r1 : Reg) (rx : RxAddr)
  /-- TI, op F3, RI2 (R217). -/
  | ti (r1 : Reg) (x2 : Reg) (i2 : Word)
  /-- NI, op F4, RI2 (R203). -/
  | ni (r1 : Reg) (x2 : Reg) (i2 : Word)
  /-- CLI, op F5, RI2 (R299). -/
  | cli (r1 : Reg) (x2 : Reg) (i2 : Word)
  /-- OI, op F6, RI2 (R208). -/
  | oi (r1 : Reg) (x2 : Reg) (i2 : Word)
  /-- XI, op F7, RI2 (R213). -/
  | xi (r1 : Reg) (x2 : Reg) (i2 : Word)
  /-- LI, op F8, RI2 (R154). -/
  | li (r1 : Reg) (x2 : Reg) (i2 : Word)
  /-- CI, op F9, RI2 (R306). -/
  | ci (r1 : Reg) (x2 : Reg) (i2 : Word)
  /-- AI, op FA, RI2 (R283). -/
  | ai (r1 : Reg) (x2 : Reg) (i2 : Word)
  /-- SI, op FB, RI2 (R292). -/
  | si (r1 : Reg) (x2 : Reg) (i2 : Word)
  /-- NOP: JT (op 42) with mask 0 (R269). -/
  | nop (rx : RxAddr)
  /-- NOPR: JTR (op 02) with mask 0 (R269). -/
  | nopr (r2 : Reg)
  /-- J: JF (op 43) with mask 0 (R269). -/
  | j (rx : RxAddr)
  /-- JR: JFR (op 03) with mask 0 (R269). -/
  | jr (r2 : Reg)
  /-- JBS: JFBS (op 22) with mask 0 (R269). -/
  | jbs (n : Nib)
  /-- JFS: JFFS (op 23) with mask 0 (R269). -/
  | jfs (n : Nib)
  /-- JE: JF (op 43) with mask 3 (R269). -/
  | je (rx : RxAddr)
  /-- JER: JFR (op 03) with mask 3 (R269). -/
  | jer (r2 : Reg)
  /-- JEBS: JFBS (op 22) with mask 3 (R269). -/
  | jebs (n : Nib)
  /-- JEFS: JFFS (op 23) with mask 3 (R269). -/
  | jefs (n : Nib)
  /-- JN: JT (op 42) with mask 3 (R269). -/
  | jn (rx : RxAddr)
  /-- JNR: JTR (op 02) with mask 3 (R269). -/
  | jnr (r2 : Reg)
  /-- JNBS: JTBS (op 20) with mask 3 (R269). -/
  | jnbs (n : Nib)
  /-- JNFS: JTFS (op 21) with mask 3 (R269). -/
  | jnfs (n : Nib)
  /-- JG: JT (op 42) with mask 2 (R269). -/
  | jg (rx : RxAddr)
  /-- JGR: JTR (op 02) with mask 2 (R269). -/
  | jgr (r2 : Reg)
  /-- JGBS: JTBS (op 20) with mask 2 (R269). -/
  | jgbs (n : Nib)
  /-- JGFS: JTFS (op 21) with mask 2 (R269). -/
  | jgfs (n : Nib)
  /-- JGE: JF (op 43) with mask 1 (R269). -/
  | jge (rx : RxAddr)
  /-- JGER: JFR (op 03) with mask 1 (R269). -/
  | jger (r2 : Reg)
  /-- JGEBS: JFBS (op 22) with mask 1 (R269). -/
  | jgebs (n : Nib)
  /-- JGEFS: JFFS (op 23) with mask 1 (R269). -/
  | jgefs (n : Nib)
  /-- JLE: JF (op 43) with mask 2 (R269). -/
  | jle (rx : RxAddr)
  /-- JLER: JFR (op 03) with mask 2 (R269). -/
  | jler (r2 : Reg)
  /-- JLEBS: JFBS (op 22) with mask 2 (R269). -/
  | jlebs (n : Nib)
  /-- JLEFS: JFFS (op 23) with mask 2 (R269). -/
  | jlefs (n : Nib)
  /-- JL: JT (op 42) with mask 1 (R269). -/
  | jl (rx : RxAddr)
  /-- JLR: JTR (op 02) with mask 1 (R269). -/
  | jlr (r2 : Reg)
  /-- JLBS: JTBS (op 20) with mask 1 (R269). -/
  | jlbs (n : Nib)
  /-- JLFS: JTFS (op 21) with mask 1 (R269). -/
  | jlfs (n : Nib)
  /-- JC: JT (op 42) with mask 8 (R269). -/
  | jc (rx : RxAddr)
  /-- JCR: JTR (op 02) with mask 8 (R269). -/
  | jcr (r2 : Reg)
  /-- JCBS: JTBS (op 20) with mask 8 (R269). -/
  | jcbs (n : Nib)
  /-- JCFS: JTFS (op 21) with mask 8 (R269). -/
  | jcfs (n : Nib)
  /-- JNC: JF (op 43) with mask 8 (R269). -/
  | jnc (rx : RxAddr)
  /-- JNCR: JFR (op 03) with mask 8 (R269). -/
  | jncr (r2 : Reg)
  /-- JNCBS: JFBS (op 22) with mask 8 (R269). -/
  | jncbs (n : Nib)
  /-- JNCFS: JFFS (op 23) with mask 8 (R269). -/
  | jncfs (n : Nib)
  deriving DecidableEq, Repr

/-- Bytes of the instruction (R111): 2 for RR and SF, 4 for RI1, 6 for RI2, the operand's for RX. -/
def Instr.length : Instr → Nat
  | .jalr _ _ => 2
  | .jtr _ _ => 2
  | .jfr _ _ => 2
  | .nr _ _ => 2
  | .clr _ _ => 2
  | .or _ _ => 2
  | .xr _ _ => 2
  | .lr _ _ => 2
  | .cr _ _ => 2
  | .ar _ _ => 2
  | .sr _ _ => 2
  | .mhr _ _ => 2
  | .dhr _ _ => 2
  | .rma1 _ _ => 2
  | .rma2 _ _ => 2
  | .srls _ _ => 2
  | .slls _ _ => 2
  | .lhr _ _ => 2
  | .sbod _ _ => 2
  | .xmit _ _ => 2
  | .spm _ _ => 2
  | .gchar _ _ => 2
  | .lpswr _ _ => 2
  | .mr _ _ => 2
  | .dr _ _ => 2
  | .jtbs _ _ => 2
  | .jtfs _ _ => 2
  | .jfbs _ _ => 2
  | .jffs _ _ => 2
  | .lis _ _ => 2
  | .lcs _ _ => 2
  | .ais _ _ => 2
  | .sis _ _ => 2
  | .jffo _ _ => 2
  | .jffoh _ _ => 2
  | .exhr _ _ => 2
  | .scan _ _ => 2
  | .align _ _ => 2
  | .cksum _ _ => 2
  | .gci _ _ => 2
  | .wci _ _ => 2
  | .cbct _ _ => 2
  | .rtd1 _ _ => 2
  | .rtd2 _ _ => 2
  | .arand _ _ => 2
  | .copy _ _ => 2
  | .sth _ rx => rx.length
  | .jal _ rx => rx.length
  | .jt _ rx => rx.length
  | .jf _ rx => rx.length
  | .nh _ rx => rx.length
  | .clh _ rx => rx.length
  | .oh _ rx => rx.length
  | .xh _ rx => rx.length
  | .lh _ rx => rx.length
  | .ch _ rx => rx.length
  | .ah _ rx => rx.length
  | .sh _ rx => rx.length
  | .mh _ rx => rx.length
  | .dh _ rx => rx.length
  | .st _ rx => rx.length
  | .am _ rx => rx.length
  | .n _ rx => rx.length
  | .cl _ rx => rx.length
  | .o _ rx => rx.length
  | .x _ rx => rx.length
  | .l _ rx => rx.length
  | .c _ rx => rx.length
  | .a _ rx => rx.length
  | .s _ rx => rx.length
  | .m _ rx => rx.length
  | .d _ rx => rx.length
  | .ahm _ rx => rx.length
  | .lhl _ rx => rx.length
  | .tbt _ rx => rx.length
  | .sbt _ rx => rx.length
  | .rbt _ rx => rx.length
  | .cbt _ rx => rx.length
  | .srhls _ _ => 2
  | .slhls _ _ => 2
  | .stbr _ _ => 2
  | .lbr _ _ => 2
  | .exbr _ _ => 2
  | .epsr _ _ => 2
  | .cio _ _ => 2
  | .wdr _ _ => 2
  | .rdr _ _ => 2
  | .ssr _ _ => 2
  | .ocr _ _ => 2
  | .lpsw _ rx => rx.length
  | .thi _ _ _ => 4
  | .nhi _ _ _ => 4
  | .clhi _ _ _ => 4
  | .ohi _ _ _ => 4
  | .xhi _ _ _ => 4
  | .lhi _ _ _ => 4
  | .chi _ _ _ => 4
  | .ahi _ _ _ => 4
  | .shi _ _ _ => 4
  | .srhl _ rx => rx.length
  | .slhl _ rx => rx.length
  | .stm _ rx => rx.length
  | .lm _ rx => rx.length
  | .stb _ rx => rx.length
  | .lb _ rx => rx.length
  | .clb _ rx => rx.length
  | .upsw _ rx => rx.length
  | .wd _ rx => rx.length
  | .oc _ rx => rx.length
  | .ts _ rx => rx.length
  | .svc _ rx => rx.length
  | .la _ rx => rx.length
  | .rrl _ rx => rx.length
  | .rll _ rx => rx.length
  | .srl _ rx => rx.length
  | .sll _ rx => rx.length
  | .sra _ rx => rx.length
  | .ti _ _ _ => 6
  | .ni _ _ _ => 6
  | .cli _ _ _ => 6
  | .oi _ _ _ => 6
  | .xi _ _ _ => 6
  | .li _ _ _ => 6
  | .ci _ _ _ => 6
  | .ai _ _ _ => 6
  | .si _ _ _ => 6
  | .nop rx => rx.length
  | .nopr _ => 2
  | .j rx => rx.length
  | .jr _ => 2
  | .jbs _ => 2
  | .jfs _ => 2
  | .je rx => rx.length
  | .jer _ => 2
  | .jebs _ => 2
  | .jefs _ => 2
  | .jn rx => rx.length
  | .jnr _ => 2
  | .jnbs _ => 2
  | .jnfs _ => 2
  | .jg rx => rx.length
  | .jgr _ => 2
  | .jgbs _ => 2
  | .jgfs _ => 2
  | .jge rx => rx.length
  | .jger _ => 2
  | .jgebs _ => 2
  | .jgefs _ => 2
  | .jle rx => rx.length
  | .jler _ => 2
  | .jlebs _ => 2
  | .jlefs _ => 2
  | .jl rx => rx.length
  | .jlr _ => 2
  | .jlbs _ => 2
  | .jlfs _ => 2
  | .jc rx => rx.length
  | .jcr _ => 2
  | .jcbs _ => 2
  | .jcfs _ => 2
  | .jnc rx => rx.length
  | .jncr _ => 2
  | .jncbs _ => 2
  | .jncfs _ => 2

end Sys2Proof
end

