-- ==== Sys2Proof/Machine/Operands.lean ====
section
/-! DEFINITION. Every operand form (`30_encoding.md` R112 to R122; `40_load_store.md` R150;
`41_logical_shift_bit.md` R220 (a), R245; `42_jump.md` R274; `45_io.md` R350, R358). Operands are computed
in the state before the instruction writes anything; s.pc is the address of the instruction. -/

namespace Sys2Proof.Machine

/-- `idx(f)` (R116): register 0 contributes nothing. -/
def State.idx (s : State) (f : Reg) : Word := if f = 0#4 then 0#32 else s.reg f

/-- `EA` (R117, R118, R119), all 32 bits (R121). -/
def State.effAddr (s : State) : RxAddr → Word
  | .rx1 x2 a2 => a2.setWidth 32 + s.idx x2
  | .rx2 x2 d2 => d2.signExtend 32 + s.idx x2 + (pcImage s.pc + 4#32)
  | .rx3 x2 x2p a2 => a2.setWidth 32 + s.idx x2 + s.idx x2p

/-- `op2` of the SF formats: N zero-extended (R113, R13). -/
def shortOperand (n : Nib) : Word := n.setWidth 32

/-- `op2` of RI1 (R114). -/
def State.immediateHalf (s : State) (x2 : Reg) (i2 : Half) : Word := i2.signExtend 32 + s.idx x2

/-- `op2` of RI2 (R115). -/
def State.immediateFull (s : State) (x2 : Reg) (i2 : Word) : Word := i2 + s.idx x2

/-- The fullword operand of RX (R150). -/
def operandFull (rx : RxAddr) (s : State) : Res Word := readFull (s.effAddr rx) s

/-- The halfword operand of RX, sign-extended (R150). -/
def operandHalf (rx : RxAddr) (s : State) : Res Word :=
  (readHalf (s.effAddr rx) s).bind fun h t => .ok (h.signExtend 32) t

/-- The halfword operand of RX, zero-extended, where the rule says so (R150). -/
def operandHalfZero (rx : RxAddr) (s : State) : Res Word :=
  (readHalf (s.effAddr rx) s).bind fun h t => .ok (h.setWidth 32) t

/-- The byte operand of RX, zero-extended (R150). -/
def operandByte (rx : RxAddr) (s : State) : Res Word :=
  (readByte (s.effAddr rx) s).bind fun b t => .ok (b.setWidth 32) t

/-- Bits 16:31 of a register. -/
def State.regHalf (s : State) (r : Reg) : Half := (s.reg r).setWidth 16

/-- The count of an RX shift: the low seven bits of the effective address (R220 (a)). -/
def State.shiftCount (s : State) (rx : RxAddr) : Nat := ((s.effAddr rx).setWidth 7 : BitVec 7).toNat

/-- The address of the halfword that holds a bit of a bit array (R245, D40). -/
def bitAddr (ea d : Word) : Word := ea + 2#32 * (d >>> 4)

/-- The mask of a bit in its halfword: bit 0 is the leftmost (R245). -/
def bitMask (d : Word) : Half := 0x8000#16 >>> (d.setWidth 4 : Nib).toNat

/-- The target of an RX jump: the low 20 bits of the effective address (R274). -/
def State.targetRx (s : State) (rx : RxAddr) : Addr := programAddr (s.effAddr rx)

/-- The target of an RR jump: the low 20 bits of the register (R274). -/
def State.targetReg (s : State) (r : Reg) : Addr := pcOfImage (s.reg r)

/-- The target of a forward short jump: N halfwords from the instruction's own address (R274). -/
def State.targetForward (s : State) (n : Nib) : Addr := s.pc + 2#20 * n.setWidth 20

/-- The target of a backward short jump (R274). -/
def State.targetBackward (s : State) (n : Nib) : Addr := s.pc - 2#20 * n.setWidth 20

/-- The device an I/O instruction addresses: bits 16:31 of x[R1] (R350). -/
def State.device (s : State) (r1 : Reg) : Half := s.regHalf r1

/-- A halfword with its bytes exchanged. -/
def swapBytes (h : Half) : Half := (h.setWidth 8 : Byte) ++ (h.extractLsb' 8 8)

/-- The operand of OC and WD: bytes swapped if the address is even (R358). -/
def operandIo (rx : RxAddr) (s : State) : Res Half :=
  (readHalf (s.effAddr rx) s).bind fun h t =>
    .ok (if (s.effAddr rx).getLsbD 0 then h else swapBytes h) t

end Sys2Proof.Machine
end

