-- ==== Sys2Proof/Machine/Boundary.lean ====
section
/-! DEFINITION. The instruction boundary (`60_exceptions.md` R458 to R499): what the environment does
there, and the asynchronous condition that is taken, if any. -/

namespace Sys2Proof.Machine

/-- The microcode halts with a code, which the console shows (R495). -/
def State.haltWith (s : State) (code : BitVec 12) : State :=
  { s with halt := some code, displayLeft := code.setWidth 20, displayRight := 0xDEAD#16 }

/-- A latched condition: one that arises while psw.M is 0 is latched or dropped, which is not stated (U30,
log 48). -/
def State.latched (s : State) (pending : Bool) : Bool := pending || s.psw.m || s.freeBit

/-- The state when power has been restored: "nothing of the previous state is promised" (R460), so all the
general registers, those of the MAC and the display are free. The microcode, which starts again, resets the
latches of the MAC interrupt, the parity error and the early power down (R520 item 1). Memory, the program
counter and the PSW are kept, without which no interrupt could be taken (R520 item 3; log 25). -/
def State.losePower (s : State) : State :=
  let t := s.freeRegs fun _ => true
  let u := t.tick
  { u.tick.tick.tick.tick with
    macDesc := s.macDesc.mapFinIdx fun k _ _ => Config.freeRegister t.freeIx k
    macStatus := { notPresent := u.free.getLsbD 0, limit := u.free.getLsbD 1,
                   execute := u.free.getLsbD 2, write := u.free.getLsbD 3 }
    parityAddr := u.tick.free
    displayLeft := u.tick.tick.free.setWidth 20
    displayRight := u.tick.tick.tick.free.setWidth 16
    pend := { u.pend with mac := false, macWaiting := false, parityError := false, earlyPowerDown := false } }

/-- One event of the environment (R360, R458, log 38). A bus fault halts at any boundary: R495 says "I/O
bus fault", and R476 that the code belongs to the sync service (DEDUCED, log 50). -/
def absorb (e : EnvEvent) (s : State) : Res Unit :=
  match e with
  | .request r => .ok () { s with requests := s.requests ++ [r] }
  | .dmaWrite a h => absWriteHalf a h s
  | .parityError address =>
    .ok ()
      { s.tick with
        parityAddr := address
        pend := { s.pend with parityError := s.latched s.pend.parityError } }
  | .powerRestored =>
    let t := s.losePower
    .ok ()
      { t.tick with pend := { t.pend with powerRestored := t.latched t.pend.powerRestored } }
  | .earlyPowerDown => .ok () { s with pend := { s.pend with earlyPowerDown := true } }
  | .consoleAttention => .ok () { s with pend := { s.pend with consoleAttention := true } }
  | .setSingle on => .ok () { s with pend := { s.pend with single := on } }
  | .setSwitches v => .ok () { s with switches := v }
  | .busFault => .ok () (s.haltWith 0x1A8#12)
  | .operatorError => .ok () { s with displayLeft := 0x0DEAD#20, displayRight := 0x0BAD#16 }
  | .parityDuring k address =>
    .ok ()
      { s.tick with
        parityBreak := some { transfers := k, address := address, latched := s.latched false } }
  | .copyBreak k => .ok () { s with copyBreak := some k }

/-- The events of one boundary, in their order. -/
def absorbAll : List EnvEvent → State → Res Unit
  | [], s => .ok () s
  | e :: rest, s => (absorb e s).bind fun _ t => absorbAll rest t

/-- The parity error of the instruction before is now pending, with its address, if it was latched: one that
arose with psw.M = 1 is, whatever psw.M is now (R458, R460). -/
def State.reportParity (s : State) : State :=
  match s.parityBreak with
  | some b =>
    { s with
      parityBreak := none
      parityAddr := b.address
      pend := { s.pend with parityError := s.pend.parityError || b.latched } }
  | none => s

/-- The events of this boundary leave the environment's list. -/
def State.nextEvents (s : State) : State :=
  { s.reportParity with env := s.env.tail, copyBreak := none }

/-- The events of this boundary happen. -/
def boundary (s : State) : Res Unit := absorbAll (s.env.headD []) s.nextEvents

/-! ## I/O requests -/

/-- Is an I/O level enabled by the PSW (R32, R458)? PSW bits 8 and 9 count on an enhanced Engine
only. -/
def levelEnabled (s : State) : IoLevel → Bool
  | .atn0 => s.psw.i
  | .atn1 => s.psw.i && (!s.params.enhancedInterrupts || s.psw.rs.getMsbD 0)
  | .atn2 =>
    s.psw.i && (!s.params.enhancedInterrupts || (s.psw.rs.getMsbD 0 && s.psw.rs.getMsbD 1))

/-- The oldest request on a level. -/
def firstRequest (level : IoLevel) (l : List IoRequest) : Option IoRequest :=
  l.find? fun r => r.level == level

/-- The requests without the oldest on a level: the acknowledge makes the device drop it (R470). -/
def dropRequest (level : IoLevel) : List IoRequest → List IoRequest
  | [] => []
  | r :: rest => if r.level = level then rest else r :: dropRequest level rest

/-- The acknowledge on a level (R470). -/
def State.acknowledge (s : State) (level : IoLevel) : State :=
  { s with requests := dropRequest level s.requests }

/-- The low byte of a device address. -/
def deviceByte (dev : Half) : Byte := dev.setWidth 8

/-- Is it one of the 3600 interrupter's devices, 70 to 75 (R480)? -/
def isAsyncTimer (dev : Half) : Bool := 0x70#8 ≤ deviceByte dev && deviceByte dev ≤ 0x75#8

/-- Is it a sync card's device: 20 to 3F, or to 5F with a second card (R476)? -/
def isSyncDevice (p : Config.Params) (dev : Half) : Bool :=
  0x20#8 ≤ deviceByte dev && deviceByte dev ≤ (if p.secondSyncCard then 0x5F#8 else 0x3F#8)

/-! ## The microcoded services (R476, R480, D38) -/

/-- The place a service means by an address. -/
def State.servicePlace (s : State) (v : Service) (ea : Word) : Option Addr :=
  if v.relocated then s.programPlace (programAddr ea) else s.absolutePlace (evenAddr (programAddr ea))

/-- The places of `n` halfwords from an address on. -/
def State.servicePlaces (s : State) (v : Service) (ea : Word) (n : Nat) : List Addr :=
  (List.range n).filterMap fun k => s.servicePlace v (ea + BitVec.ofNat 32 (2 * k))

/-- The halfwords the async service may write: AS.CTL, AS.LCT and the ring, which follow one another
(R401, R480). -/
def State.asyncPlaces (s : State) (v : Service) : List Addr :=
  s.servicePlaces v (s.regIn 1#4 5#4) ((0x600 + asyncRingBytes s.params) / 2)

/-- The halfword a service reads at an address; where there is none, what it reads is open, and the request
says it (log 38). -/
def State.serviceHalf (s : State) (v : Service) (ea : Word) : Half :=
  match s.servicePlace v ea with
  | some pa => s.mem.half pa
  | none => v.unread

/-- The address of the microcoded line descriptor of a sync service: 0x400 + 10 times the line, of 16 lines,
or 32 with a second card (R476). -/
def State.lineDescriptor (s : State) (v : Service) : Word :=
  BitVec.ofNat 32 (0x400 + 10 * (v.line % if s.params.secondSyncCard then 32 else 16))

/-- The address of the line's input block, the fullword at offset 0 (R476). -/
def State.inputBlock (s : State) (v : Service) : Word :=
  s.serviceHalf v (s.lineDescriptor v) ++ s.serviceHalf v (s.lineDescriptor v + 2#32)

/-- The address of the index that an interrupt of the line uses: the output index at offset 4 of the
descriptor, or the index that begins the input block (R476). -/
def State.lineIndexAddr (s : State) (v : Service) : Word :=
  if v.output then s.lineDescriptor v + 4#32 else s.inputBlock v

/-- Is the interrupt handed on as a conventional one: is the output index 0, the input index negative
(R476)? -/
def State.handsOn (s : State) (v : Service) : Bool :=
  let index := s.serviceHalf v (s.lineIndexAddr v)
  if v.output then index == 0#16 else index.msb

/-- The halfwords the sync service may write: the output index of the line, or the index and the ring of
its input block, which follow one another (R476). -/
def State.syncPlaces (s : State) (v : Service) : List Addr :=
  s.servicePlaces v (s.lineIndexAddr v) (if v.output then 1 else 129)

/-- The halfwords a service writes at some places; it writes nowhere else. -/
def State.serviceStores (s : State) (v : Service) (places : List Addr) : State :=
  s.setMem
    (Memory.scribbled (fun a => if places.contains (evenAddr a) then some a else none) v.stores s.mem)

/-- The input data of a sync service goes to register 3 of set 0 (R476). -/
def State.syncInput (s : State) (v : Service) : State :=
  match v.syncInput with
  | some w => s.setRegIn 0#4 3#4 w
  | none => s

/-- The registers that an async service writes, of the sets it may write (R480). -/
def asyncRegisters (allowed : Nib → Bool) : List (Nib × Reg × Word) → State → State
  | [], s => s
  | (k, r, w) :: rest, s => asyncRegisters allowed rest (if allowed k then s.setRegIn k r w else s)

/-- Is it register set 1, 2, 3 or 4 (R400)? -/
def isAsyncSet (k : Nib) : Bool := 1#4 ≤ k && k ≤ 4#4

/-- What an async service writes: register sets 1 to 4 and its storage. If the software has not
initialised it, anything in those sets, set D and memory (R407, R480, R530 row 7). -/
def State.asyncWrites (s : State) (v : Service) : State :=
  if s.asyncReady then asyncRegisters isAsyncSet v.asyncRegs (s.serviceStores v (s.asyncPlaces v))
  else
    asyncRegisters (fun k => isAsyncSet k || k == 13#4) v.asyncRegs
      (s.setMem (Memory.scribbled s.absolutePlace v.stores s.mem))

/-- The count in register 14 of set D goes down by one (R480). -/
def State.timerTick (s : State) : State :=
  s.setRegIn 13#4 14#4 (s.regIn 13#4 14#4 - 1#32)

/-- An async service (R480): its writes; at phase 5, the interrupt of device 75, the timer counts down
(R402, C24), and if that makes it negative in register set F its routine is entered. -/
def asyncService (dev : Half) (v : Service) (s : State) : Out :=
  let t := s.asyncWrites v
  if deviceByte dev = 0x75#8 then
    if t.timerTick.timerDue && !(t.regIn 13#4 14#4).msb then (enterTimer t.timerTick).out
    else .next t.timerTick
  else .next t

/-! ## Taking a request -/

/-- A request in the conventional way, on level 0 or 2; the interrupts of 70 to 75 never reach a program
of an Engine with the async microcode (R470, R480). That a sync card's request on these levels is conventional
too, with psw.S = 1 as well, is the model's choice: R458 has sync boards interrupt on level 1 (DESIGN CHOICE,
log 53). -/
def takeConventional (v : Service) (dev : Half) (s : State) : Out :=
  if s.params.enhancedAsync && isAsyncTimer dev then asyncService dev v s
  else takeIo Psw.ioInterrupt dev s

/-- A request on level 0 is taken (R470, R480, R495). That an acknowledge nobody answers halts with the
code 1E9 is read from R495's "no device answers the acknowledge of rule R470" (DEDUCED, log 53). -/
def takeLevel0 (r : IoRequest) (s : State) : Out :=
  if !s.params.enhancedAsync && !s.params.enhancedSync then .next (s.haltWith 0x160#12)
  else
    match r.ack with
    | none => .next (s.haltWith 0x1E9#12)
    | some dev => takeConventional r.service dev s

/-- A request on level 1 is taken (R470, R476, R495). Of a device out of the sync range it is the halt 610,
whatever psw.S is: S affects only the interrupts of sync cards (R37; DEDUCED, log 53). -/
def takeLevel1 (r : IoRequest) (s : State) : Out :=
  if !s.params.enhancedSync then .next (s.haltWith 0x1A0#12)
  else
    match r.ack with
    | none => .next (s.haltWith 0x608#12)
    | some dev =>
      if !isSyncDevice s.params dev then .next (s.haltWith 0x610#12)
      else if !s.psw.s then takeIo Psw.ioInterrupt dev s
      else if s.handsOn r.service then takeIo Psw.syncInterrupt dev (s.syncInput r.service)
      else .next ((s.syncInput r.service).serviceStores r.service (s.syncPlaces r.service))

/-- A request on level 2 is taken (R470, R495). -/
def takeLevel2 (r : IoRequest) (s : State) : Out :=
  match r.ack with
  | none => .next (s.haltWith 0x1E9#12)
  | some dev => takeConventional r.service dev s

/-- The oldest request on an enabled level. -/
def enabledRequest (s : State) (level : IoLevel) : Option IoRequest :=
  if levelEnabled s level then firstRequest level s.requests else none

/-- The I/O request that is taken, highest level first (R458 ranks 5 to 7, D23). -/
def takeRequest (s : State) : Option Out :=
  match enabledRequest s .atn0 with
  | some r => some (takeLevel0 r (s.acknowledge .atn0))
  | none =>
    match enabledRequest s .atn1 with
    | some r => some (takeLevel1 r (s.acknowledge .atn1))
    | none =>
      match enabledRequest s .atn2 with
      | some r => some (takeLevel2 r (s.acknowledge .atn2))
      | none => none

/-- The pending enabled condition that is taken at this boundary, if there is one, in the priority
order of R458. The console's "single" condition, to which R458 gives no rank, comes last: the model stops
there, before the next instruction (DESIGN CHOICE, log 49). -/
def takePending (s : State) : Option Out :=
  if s.pend.earlyPowerDown then some (.next (s.haltWith 0x060#12))
  else if s.pend.consoleAttention then some (.refused .consoleService)
  else if s.psw.m && s.pend.parityError then some (takeMachineMalfunction true s)
  else if s.psw.m && s.pend.powerRestored then some (takeMachineMalfunction false s)
  else if s.psw.rp && (s.pend.mac || s.pend.macWaiting) then some (takeMac s.pc s)
  else (takeRequest s).or (if s.pend.single then some (.refused .singleStep) else none)

/-- The wait state with nothing to take: it goes on, or it can never end (R490, U26). -/
def waitState (s : State) : Out :=
  if !s.psw.i && !s.psw.m then .fault .waitingForever else .next s

end Sys2Proof.Machine
end

