-- ==== Sys2Proof/Machine/LoadStore.lean ====
section
/-! DEFINITION. Load, store, exchange and copy instructions (`40_load_store.md`) and LHR
(`43_arithmetic.md` R320). -/

namespace Sys2Proof.Machine

/-- An operand that is computed from registers alone. -/
def operandOf (f : State → Word) (s : State) : Res Word := .ok (f s) s

/-- The register written with `v`, and `CCload(v)` (R151). -/
def loadTo (r1 : Reg) (v : Word) (s : State) : Res Unit := .ok () ((s.writeReg r1 v).loadFlags v)

/-- A load: the operand goes to x[R1], and the condition code says what was loaded (R150, R151). -/
def load (len : Nat) (operand : State → Res Word) (r1 : Reg) (s : State) : Out :=
  sequential len (fun t => (operand t).bind (loadTo r1)) s

/-- L (R152). -/
def execL (r1 : Reg) (rx : RxAddr) (s : State) : Out := load rx.length (operandFull rx) r1 s

/-- LH (R153). -/
def execLh (r1 : Reg) (rx : RxAddr) (s : State) : Out := load rx.length (operandHalf rx) r1 s

/-- LI (R154). -/
def execLi (r1 x2 : Reg) (i2 : Word) (s : State) : Out :=
  load 6 (operandOf fun t => t.immediateFull x2 i2) r1 s

/-- LHI (R155). -/
def execLhi (r1 x2 : Reg) (i2 : Half) (s : State) : Out :=
  load 4 (operandOf fun t => t.immediateHalf x2 i2) r1 s

/-- LR (R156). -/
def execLr (r1 r2 : Reg) (s : State) : Out := load 2 (operandOf fun t => t.reg r2) r1 s

/-- LIS (R157). -/
def execLis (r1 : Reg) (n : Nib) (s : State) : Out := load 2 (operandOf fun _ => shortOperand n) r1 s

/-- LCS (R158): the two's complement of the zero-extended N. -/
def execLcs (r1 : Reg) (n : Nib) (s : State) : Out :=
  load 2 (operandOf fun _ => 0#32 - shortOperand n) r1 s

/-- LA (R159): the effective address itself. -/
def execLa (r1 : Reg) (rx : RxAddr) (s : State) : Out :=
  load rx.length (operandOf fun t => t.effAddr rx) r1 s

/-- LHL (R160). -/
def execLhl (r1 : Reg) (rx : RxAddr) (s : State) : Out := load rx.length (operandHalfZero rx) r1 s

/-- LB (R162). -/
def execLb (r1 : Reg) (rx : RxAddr) (s : State) : Out := load rx.length (operandByte rx) r1 s

/-- LBR (R163). -/
def execLbr (r1 r2 : Reg) (s : State) : Out :=
  load 2 (operandOf fun t => ((t.reg r2).setWidth 8 : Byte).setWidth 32) r1 s

/-- The two halfwords of a fullword exchanged (R164). -/
def swapHalves (w : Word) : Word := (w.setWidth 16 : Half) ++ w.extractLsb' 16 16

/-- EXHR (R164). -/
def execExhr (r1 r2 : Reg) (s : State) : Out := load 2 (operandOf fun t => swapHalves (t.reg r2)) r1 s

/-- EXBR (R165): bits 0:15 of x[R1] stay. -/
def execExbr (r1 r2 : Reg) (s : State) : Out :=
  load 2 (operandOf fun t => withHalf true (t.reg r1) (swapBytes (t.regHalf r2))) r1 s

/-- LHR (R320). -/
def execLhr (r1 r2 : Reg) (s : State) : Out :=
  load 2 (operandOf fun t => (t.regHalf r2).signExtend 32) r1 s

/-- The fullwords from an address on, into the registers from `r` on (R161). -/
def loadMultiple : Nat → Word → Reg → State → Res Unit
  | 0, _, _, s => .ok () s
  | n + 1, ea, r, s =>
    (readFull ea s).bind fun v t => loadMultiple n (ea + 4#32) (nextReg r) (t.writeReg r v)

/-- Control to one of two places, which is not stated. -/
def State.setPcEither (s : State) (a b : Addr) : State := s.tick.setPc (if s.freeBit then a else b)

/-- LM and STM (R161, R168): `n` transfers, unless a parity error that psw.M enables abandons them after
some, none of which has met a MAC fault; the transfers made by then stay, and whether the program
counter has moved on is open (log 30). -/
def multiple (len n : Nat) (transfers : Nat → State → Res Unit) (s : State) : Out :=
  transfer (fun t =>
    let whole := (transfers n t).bind fun _ u => .ok () (u.setPc (nextAddr s.pc len))
    match t.parityBreak with
    | some b =>
      if t.psw.m ∧ b.transfers < n then
        (transfers b.transfers t).bind fun _ u =>
          if u.pend.mac then whole else .ok () (u.setPcEither s.pc (nextAddr s.pc len))
      else whole
    | none => whole) s

/-- LM (R161): registers R1 to 15; the effective address is computed once. -/
def execLm (r1 : Reg) (rx : RxAddr) (s : State) : Out :=
  multiple rx.length (16 - r1.toNat) (fun n t => loadMultiple n (s.effAddr rx) r1 t) s

/-- ST (R166). -/
def execSt (r1 : Reg) (rx : RxAddr) (s : State) : Out :=
  sequential rx.length (fun t => writeFull (t.effAddr rx) (t.reg r1) t) s

/-- STH (R167). -/
def execSth (r1 : Reg) (rx : RxAddr) (s : State) : Out :=
  sequential rx.length (fun t => writeHalf (t.effAddr rx) (t.regHalf r1) t) s

/-- The registers from `r` on, into the fullwords from an address on (R168). -/
def storeMultiple : Nat → Word → Reg → State → Res Unit
  | 0, _, _, s => .ok () s
  | n + 1, ea, r, s =>
    (writeFull ea (s.reg r) s).bind fun _ t => storeMultiple n (ea + 4#32) (nextReg r) t

/-- STM (R168): registers R1 to 15. -/
def execStm (r1 : Reg) (rx : RxAddr) (s : State) : Out :=
  multiple rx.length (16 - r1.toNat) (fun n t => storeMultiple n (s.effAddr rx) r1 t) s

/-- STB (R169). -/
def execStb (r1 : Reg) (rx : RxAddr) (s : State) : Out :=
  sequential rx.length (fun t => writeByte (t.effAddr rx) ((t.reg r1).setWidth 8) t) s

/-- STBR (R170): the destination is R2, and the byte is what is tested. -/
def execStbr (r1 r2 : Reg) (s : State) : Out :=
  sequential 2 (fun t =>
    .ok () ((t.writeReg r2 ((t.reg r2).extractLsb' 8 24 ++ ((t.reg r1).setWidth 8 : Byte))).loadFlags
      (((t.reg r1).setWidth 8 : Byte).setWidth 32))) s

/-! ## COPY (R175, log 32) -/

/-- Is the microcode level S-15 or later (R7)? -/
def State.levelS15 (s : State) : Bool := s.params.microcode != .belowS15

/-- An instruction of microcode S-15: below that level its op code is unassigned (R128). -/
def sinceS15 (meaning : State → Out) (s : State) : Out :=
  if s.levelS15 then meaning s else takeIllegal s

/-- How many halfwords COPY moves (R175). -/
def copyCount (w : Word) : Nat := (w >>> 4).toNat + 1

/-- The addresses of the `n` halfwords of a block whose last is at `last`, ascending (R175). -/
def blockAddrs (last : Word) (n : Nat) : List Word :=
  (List.range n).map fun k => last - BitVec.ofNat 32 (2 * (n - 1 - k))

/-- The absolute addresses of those of a list of program addresses that translate. -/
def absoluteOf (kind : Access) (l : List Word) (s : State) : List Addr :=
  l.filterMap fun ea => (translate kind (evenAddr (programAddr ea)) s).toOption

/-- Do the source and the destination of a COPY, of `n` halfwords each that end at these addresses, overlap
(R175)? Their halfwords lie `n` long one below the other, modulo 2^20. -/
def rangesOverlap (src dst : Word) (n : Nat) : Bool :=
  let d := ((programAddr dst).toNat / 2 + 0x80000 - (programAddr src).toNat / 2) % 0x80000
  decide (d < n) || decide (0x80000 - d < n)

/-- Is the outcome of a copy open: under relocation, do two blocks that do not overlap have an absolute
halfword in common, or two destination halfwords one place (R175: the order is not settled)? -/
def blocksShare (src dst : List Word) (s : State) : Bool :=
  ((absoluteOf .read src s).any fun a => (absoluteOf .write dst s).contains a) ||
    !decide (absoluteOf .write dst s).Nodup

/-- The halfwords at some program addresses. -/
def readHalves : List Word → State → Res (List Half)
  | [], s => .ok [] s
  | ea :: rest, s =>
    (readHalf ea s).bind fun h t => (readHalves rest t).bind fun hs u => .ok (h :: hs) u

/-- Unspecified halfwords written at some program addresses. -/
def writeFreeHalves : List Word → State → Res Unit
  | [], s => .ok () s
  | ea :: rest, s =>
    (writeHalf ea (s.free.setWidth 16) s.tick).bind fun _ t => writeFreeHalves rest t

/-- Halfwords copied one after another, from and to these addresses; their values are unspecified if the
outcome is open. Each access uses the descriptors as they then are (R96). -/
def copyEach (open_ : Bool) : List (Word × Word) → State → Res Unit
  | [], s => .ok () s
  | (src, dst) :: rest, s =>
    (readHalf src s).bind fun h t =>
      (if open_ then writeHalf dst (t.free.setWidth 16) t.tick else writeHalf dst h t).bind fun _ u =>
        copyEach open_ rest u

/-- A block copied, from its lower end or from its upper end; the extra halfword before the source is
read too, first if it begins at the lower end, else last and only if `extra` (R175, log 32). -/
def copyBlock (down extra : Bool) (src dst : List Word) (before : Word) (s : State) : Res Unit :=
  if down then
    (copyEach (blocksShare src dst s) (src.zip dst).reverse s).bind fun _ t =>
      if extra then (readHalf before t).bind fun _ u => .ok () u else .ok () t
  else
    (readHalf before s).bind fun _ t => copyEach (blocksShare src dst s) (src.zip dst) t

/-- A MAC cause chosen by two free bits. -/
def causeOf (w : Word) : MacCause :=
  if w.getLsbD 1 then (if w.getLsbD 2 then .notPresent else .limit)
  else (if w.getLsbD 2 then .execute else .write)

/-- An access of an undescribed body may fault, if relocation is on. -/
def State.mayFault (s : State) : State :=
  if s.psw.rp && s.freeBit then s.tick.raiseMac (causeOf s.free) else s.tick

/-- What COPY leaves unspecified: both addresses, the count and the condition code (R175). -/
def State.afterCopy (s : State) (r1 r2 : Reg) : State :=
  (((s.freeReg r1).freeReg (nextReg r1)).freeReg r2).freeCc

/-- COPY to its end; which end it begins at is open. -/
def copyWhole (r1 r2 : Reg) (s : State) : Res Unit :=
  let n := copyCount (s.reg r2)
  (copyBlock s.freeBit true (blockAddrs (s.reg r1) n) (blockAddrs (s.reg (nextReg r1)) n)
    (s.reg r1 - BitVec.ofNat 32 (2 * n)) s.tick).bind fun _ t =>
      .ok () ((t.afterCopy r1 r2).setPc (nextAddr s.pc 2))

/-- COPY stopped by an interrupt request after `k` of its halfwords: the program counter stays and
x[R2] holds the remaining count, so that it resumes (R175). Which end it works from is open: from the
lower one the addresses stay; from the upper one they go down. Whether a copy that stops while it works
from the upper end has read the extra halfword before the whole source already is not stated either: a
free bit chooses (DESIGN CHOICE, log 32). The model's choice is also that one whose accesses fault is stopped
all the same: the program counter stays, so that the MAC interrupt saves the location of the COPY whatever
MAC_SAVED_PC says, and the destinations not reached yet keep their contents (DESIGN CHOICE, log 32). -/
def copyPart (k : Nat) (r1 r2 : Reg) (s : State) : Res Unit :=
  let n := copyCount (s.reg r2)
  let back : Word := BitVec.ofNat 32 (2 * k)
  let rest : Word := BitVec.ofNat 32 (16 * (n - k - 1))
  let before : Word := s.reg r1 - BitVec.ofNat 32 (2 * n)
  if s.freeBit then
    (copyBlock true (s.free.getLsbD 1) (blockAddrs (s.reg r1) k) (blockAddrs (s.reg (nextReg r1)) k) before
      s.tick).bind fun _ t =>
        .ok () ((((t.writeReg r1 (s.reg r1 - back)).writeReg (nextReg r1) (s.reg (nextReg r1) - back)).writeReg
          r2 rest).freeCc)
  else
    (copyBlock false true ((blockAddrs (s.reg r1) n).take k) ((blockAddrs (s.reg (nextReg r1)) n).take k) before
      s.tick).bind fun _ t => .ok () ((t.writeReg r2 rest).freeCc)

/-- COPY (R175): one whose x[R2] has low four bits other than 0, or whose blocks overlap, is refused, as R175,
U20 and D31 say; any other is copied, to its end or until an interrupt request stops it. -/
def execCopy (r1 r2 : Reg) (s : State) : Out :=
  sinceS15 (transfer fun t =>
    let n := copyCount (t.reg r2)
    if (t.reg r2).setWidth 4 ≠ 0#4 then .refused .copyLowBits
    else if rangesOverlap (t.reg r1) (t.reg (nextReg r1)) n then .refused .copyOverlap
    else
      match t.copyBreak with
      | some k => if 0 < k ∧ k < n then copyPart k r1 r2 t else copyWhole r1 r2 t
      | none => copyWhole r1 r2 t) s

end Sys2Proof.Machine
end

