-- ==== Sys2Proof/Machine/Arithmetic.lean ====
section
/-! DEFINITION. Arithmetic and compare instructions (`43_arithmetic.md` R280 to R318). -/

namespace Sys2Proof.Machine

/-- An addition to x[R1] (R280). -/
def addTo (len : Nat) (operand : State → Res Word) (r1 : Reg) (s : State) : Out :=
  sequential len (fun t =>
    (operand t).bind fun v u =>
      .ok () ((u.writeReg r1 (u.reg r1 + v)).writeFlags (addFlags (u.reg r1) v))) s

/-- A subtraction from x[R1] (R289). -/
def subFrom (len : Nat) (operand : State → Res Word) (r1 : Reg) (s : State) : Out :=
  sequential len (fun t =>
    (operand t).bind fun v u =>
      .ok () ((u.writeReg r1 (u.reg r1 - v)).writeFlags (subFlags (u.reg r1) v))) s

/-- A logical comparison with x[R1] (R296). -/
def compareLogical (len : Nat) (operand : State → Res Word) (r1 : Reg) (s : State) : Out :=
  sequential len (fun t =>
    (operand t).bind fun v u => .ok () (u.writeFlags (subFlags (u.reg r1) v))) s

/-- An algebraic comparison with x[R1]: C is unspecified (R303). -/
def compareSigned (len : Nat) (operand : State → Res Word) (r1 : Reg) (s : State) : Out :=
  sequential len (fun t =>
    (operand t).bind fun v u =>
      .ok () (u.tick.writeFlags (compareFlags u.freeBit (u.reg r1) v))) s

/-! ## Add -/

/-- A (R281). -/
def execA (r1 : Reg) (rx : RxAddr) (s : State) : Out := addTo rx.length (operandFull rx) r1 s

/-- AH (R282). -/
def execAh (r1 : Reg) (rx : RxAddr) (s : State) : Out := addTo rx.length (operandHalf rx) r1 s

/-- AI (R283). -/
def execAi (r1 x2 : Reg) (i2 : Word) (s : State) : Out :=
  addTo 6 (operandOf fun t => t.immediateFull x2 i2) r1 s

/-- AHI (R284). -/
def execAhi (r1 x2 : Reg) (i2 : Half) (s : State) : Out :=
  addTo 4 (operandOf fun t => t.immediateHalf x2 i2) r1 s

/-- AR (R285). -/
def execAr (r1 r2 : Reg) (s : State) : Out := addTo 2 (operandOf fun t => t.reg r2) r1 s

/-- AIS (R286). -/
def execAis (r1 : Reg) (n : Nib) (s : State) : Out := addTo 2 (operandOf fun _ => shortOperand n) r1 s

/-- AM (R287): x[R1] is unchanged; a write that faults leaves the condition code (log 52). -/
def execAm (r1 : Reg) (rx : RxAddr) (s : State) : Out :=
  sequential rx.length (fun t =>
    (operandFull rx t).bind fun v u =>
      (writeFull (t.effAddr rx) (t.reg r1 + v) u).bind fun _ w =>
        if w.pend.mac && !u.pend.mac then .ok () w
        else .ok () (w.writeFlags (addFlags (t.reg r1) v))) s

/-- AHM (R288): the condition code is that of the 32-bit sum, not of the halfword stored. -/
def execAhm (r1 : Reg) (rx : RxAddr) (s : State) : Out :=
  sequential rx.length (fun t =>
    (operandHalf rx t).bind fun v u =>
      writeHalf (t.effAddr rx) ((t.reg r1 + v).setWidth 16)
        (u.writeFlags (addFlags (t.reg r1) v))) s

/-! ## Subtract -/

/-- S (R290). -/
def execS (r1 : Reg) (rx : RxAddr) (s : State) : Out := subFrom rx.length (operandFull rx) r1 s

/-- SH (R291). -/
def execSh (r1 : Reg) (rx : RxAddr) (s : State) : Out := subFrom rx.length (operandHalf rx) r1 s

/-- SI (R292). -/
def execSi (r1 x2 : Reg) (i2 : Word) (s : State) : Out :=
  subFrom 6 (operandOf fun t => t.immediateFull x2 i2) r1 s

/-- SHI (R293). -/
def execShi (r1 x2 : Reg) (i2 : Half) (s : State) : Out :=
  subFrom 4 (operandOf fun t => t.immediateHalf x2 i2) r1 s

/-- SR (R294). -/
def execSr (r1 r2 : Reg) (s : State) : Out := subFrom 2 (operandOf fun t => t.reg r2) r1 s

/-- SIS (R295). -/
def execSis (r1 : Reg) (n : Nib) (s : State) : Out :=
  subFrom 2 (operandOf fun _ => shortOperand n) r1 s

/-! ## Compare -/

/-- CL (R297). -/
def execCl (r1 : Reg) (rx : RxAddr) (s : State) : Out := compareLogical rx.length (operandFull rx) r1 s

/-- CLH (R298). -/
def execClh (r1 : Reg) (rx : RxAddr) (s : State) : Out :=
  compareLogical rx.length (operandHalf rx) r1 s

/-- CLI (R299). -/
def execCli (r1 x2 : Reg) (i2 : Word) (s : State) : Out :=
  compareLogical 6 (operandOf fun t => t.immediateFull x2 i2) r1 s

/-- CLHI (R300). -/
def execClhi (r1 x2 : Reg) (i2 : Half) (s : State) : Out :=
  compareLogical 4 (operandOf fun t => t.immediateHalf x2 i2) r1 s

/-- CLR (R301). -/
def execClr (r1 r2 : Reg) (s : State) : Out := compareLogical 2 (operandOf fun t => t.reg r2) r1 s

/-- The low byte of a register, zero-extended. -/
def State.regByte (s : State) (r : Reg) : Word := ((s.reg r).setWidth 8 : Byte).setWidth 32

/-- CLB (R302): two bytes as 32-bit numbers; C is unspecified. -/
def execClb (r1 : Reg) (rx : RxAddr) (s : State) : Out :=
  sequential rx.length (fun t =>
    (operandByte rx t).bind fun v u =>
      .ok () (u.tick.writeFlags (signFlags u.freeBit (u.regByte r1 - v)))) s

/-- C (R304). -/
def execC (r1 : Reg) (rx : RxAddr) (s : State) : Out := compareSigned rx.length (operandFull rx) r1 s

/-- CH (R305). -/
def execCh (r1 : Reg) (rx : RxAddr) (s : State) : Out := compareSigned rx.length (operandHalf rx) r1 s

/-- CI (R306). -/
def execCi (r1 x2 : Reg) (i2 : Word) (s : State) : Out :=
  compareSigned 6 (operandOf fun t => t.immediateFull x2 i2) r1 s

/-- CHI (R307). -/
def execChi (r1 x2 : Reg) (i2 : Half) (s : State) : Out :=
  compareSigned 4 (operandOf fun t => t.immediateHalf x2 i2) r1 s

/-- CR (R308). -/
def execCr (r1 r2 : Reg) (s : State) : Out := compareSigned 2 (operandOf fun t => t.reg r2) r1 s

/-! ## Multiply -/

/-- The 64-bit product of two unsigned fullwords (R309, R310). -/
def product (a b : Word) : BitVec 64 := a.setWidth 64 * b.setWidth 64

/-- A fullword multiplication: x[R1+1] times the operand, into the pair x[R1], x[R1+1] (R310). -/
def multiply (len : Nat) (operand : State → Res Word) (r1 : Reg) (s : State) : Out :=
  sequential len (fun t =>
    (operand t).bind fun v u =>
      let p := product (u.reg (nextReg r1)) v
      .ok () ((u.writeReg r1 (p.extractLsb' 32 32)).writeReg (nextReg r1) (p.setWidth 32))) s

/-- M (R310). -/
def execM (r1 : Reg) (rx : RxAddr) (s : State) : Out := multiply rx.length (operandFull rx) r1 s

/-- MR (R311). -/
def execMr (r1 r2 : Reg) (s : State) : Out := multiply 2 (operandOf fun t => t.reg r2) r1 s

/-- A halfword multiplication of unsigned operands (R312, D26). -/
def multiplyHalf (len : Nat) (operand : State → Res Word) (r1 : Reg) (s : State) : Out :=
  sequential len (fun t =>
    (operand t).bind fun v u => .ok () (u.writeReg r1 ((u.regHalf r1).setWidth 32 * v))) s

/-- MH (R312). -/
def execMh (r1 : Reg) (rx : RxAddr) (s : State) : Out :=
  multiplyHalf rx.length (operandHalfZero rx) r1 s

/-- MHR (R313). -/
def execMhr (r1 r2 : Reg) (s : State) : Out :=
  multiplyHalf 2 (operandOf fun t => (t.regHalf r2).setWidth 32) r1 s

/-! ## Divide -/

/-- The result of a division: remainder and quotient, or two unspecified values (R314, D15). -/
def State.writeDivision (s : State) (r1 : Reg) (result : Option (Word × Word)) : State :=
  match result with
  | some q => (s.writeReg r1 q.1).writeReg (nextReg r1) q.2
  | none => (s.tick.tick.writeReg r1 s.free).writeReg (nextReg r1) s.tick.free

/-- Remainder and quotient of the 64-bit dividend `hi || lo` by a fullword, none if the divisor is 0 or
the quotient does not fit (R315). -/
def divideFull (hi lo d : Word) : Option (Word × Word) :=
  let n := (hi ++ lo).toNat
  if d = 0#32 ∨ 4294967296 ≤ n / d.toNat then none
  else some (BitVec.ofNat 32 (n % d.toNat), BitVec.ofNat 32 (n / d.toNat))

/-- Remainder and quotient of a fullword by a halfword, each sign-extended, none if the divisor is 0 or
the quotient does not fit in 16 bits (R317, D26). -/
def divideHalf (n : Word) (d : Half) : Option (Word × Word) :=
  if d = 0#16 ∨ 65536 ≤ n.toNat / d.toNat then none
  else
    some ((BitVec.ofNat 16 (n.toNat % d.toNat)).signExtend 32,
      (BitVec.ofNat 16 (n.toNat / d.toNat)).signExtend 32)

/-- A fullword division (R315). -/
def divide (len : Nat) (operand : State → Res Word) (r1 : Reg) (s : State) : Out :=
  sequential len (fun t =>
    (operand t).bind fun v u =>
      .ok () (u.writeDivision r1 (divideFull (u.reg r1) (u.reg (nextReg r1)) v))) s

/-- D (R315). -/
def execD (r1 : Reg) (rx : RxAddr) (s : State) : Out := divide rx.length (operandFull rx) r1 s

/-- DR (R316). -/
def execDr (r1 r2 : Reg) (s : State) : Out := divide 2 (operandOf fun t => t.reg r2) r1 s

/-- A halfword division (R317). -/
def divideByHalf (len : Nat) (operand : State → Res Word) (r1 : Reg) (s : State) : Out :=
  sequential len (fun t =>
    (operand t).bind fun v u =>
      .ok () (u.writeDivision r1 (divideHalf (u.reg r1) (v.setWidth 16)))) s

/-- DH (R317). -/
def execDh (r1 : Reg) (rx : RxAddr) (s : State) : Out := divideByHalf rx.length (operandHalf rx) r1 s

/-- DHR (R318). -/
def execDhr (r1 r2 : Reg) (s : State) : Out :=
  divideByHalf 2 (operandOf fun t => (t.regHalf r2).setWidth 32) r1 s

end Sys2Proof.Machine
end

