-- ==== Sys2Proof/Machine/Bit.lean ====
section
/-! DEFINITION. The bit instructions (`41_logical_shift_bit.md` R245 to R249). -/

namespace Sys2Proof.Machine

/-- The condition code of the bit instructions: G is the bit before any change, C unspecified (R245). -/
def State.bitResult (s : State) (h : Half) (d : Word) : State :=
  s.tick.writeFlags (bitFlags s.freeBit (h &&& bitMask d != 0#16))

/-- A bit instruction that writes the halfword back (R247 to R249). -/
def changeBit (f : Half → Half → Half) (r1 : Reg) (rx : RxAddr) (s : State) : Out :=
  sequential rx.length (fun t =>
    (readHalf (bitAddr (t.effAddr rx) (t.reg r1)) t).bind fun h u =>
      (writeHalf (bitAddr (t.effAddr rx) (t.reg r1)) (f h (bitMask (t.reg r1))) u).bind fun _ v =>
        .ok () (v.bitResult h (t.reg r1))) s

/-- TBT (R246). -/
def execTbt (r1 : Reg) (rx : RxAddr) (s : State) : Out :=
  sequential rx.length (fun t =>
    (readHalf (bitAddr (t.effAddr rx) (t.reg r1)) t).bind fun h u =>
      .ok () (u.bitResult h (t.reg r1))) s

/-- SBT (R247). -/
def execSbt (r1 : Reg) (rx : RxAddr) (s : State) : Out := changeBit (· ||| ·) r1 rx s

/-- RBT (R248). -/
def execRbt (r1 : Reg) (rx : RxAddr) (s : State) : Out := changeBit (fun h k => h &&& ~~~k) r1 rx s

/-- CBT (R249). -/
def execCbt (r1 : Reg) (rx : RxAddr) (s : State) : Out := changeBit (· ^^^ ·) r1 rx s

end Sys2Proof.Machine
end

