-- ==== Sys2Proof/Machine/Jump.lean ====
section
/-! DEFINITION. Jump instructions (`42_jump.md` R260 to R274). -/

namespace Sys2Proof.Machine

/-- A jump of `len` bytes that is taken if `taken` says so (R274). -/
def jumpIf (len : Nat) (taken : State → Bool) (target : State → Addr) (s : State) : Out :=
  transfer (fun t =>
    if taken t then jumpTo (target t) t else .ok () (t.setPc (nextAddr t.pc len))) s

/-- Jump on true condition: some condition of the mask holds (R260). -/
def jumpTrue (mask : Nib) (len : Nat) (target : State → Addr) (s : State) : Out :=
  jumpIf len (fun t => t.psw.meets mask) target s

/-- Jump on false condition: no condition of the mask holds (R260). -/
def jumpFalse (mask : Nib) (len : Nat) (target : State → Addr) (s : State) : Out :=
  jumpIf len (fun t => !t.psw.meets mask) target s

/-- JT (R261). -/
def execJt (mask : Nib) (rx : RxAddr) (s : State) : Out :=
  jumpTrue mask rx.length (fun t => t.targetRx rx) s

/-- JF (R262). -/
def execJf (mask : Nib) (rx : RxAddr) (s : State) : Out :=
  jumpFalse mask rx.length (fun t => t.targetRx rx) s

/-- JTR (R263). -/
def execJtr (mask : Nib) (r2 : Reg) (s : State) : Out := jumpTrue mask 2 (fun t => t.targetReg r2) s

/-- JFR (R264). -/
def execJfr (mask : Nib) (r2 : Reg) (s : State) : Out := jumpFalse mask 2 (fun t => t.targetReg r2) s

/-- JTBS (R265). -/
def execJtbs (mask n : Nib) (s : State) : Out := jumpTrue mask 2 (fun t => t.targetBackward n) s

/-- JTFS (R266). -/
def execJtfs (mask n : Nib) (s : State) : Out := jumpTrue mask 2 (fun t => t.targetForward n) s

/-- JFBS (R267). -/
def execJfbs (mask n : Nib) (s : State) : Out := jumpFalse mask 2 (fun t => t.targetBackward n) s

/-- JFFS (R268). -/
def execJffs (mask n : Nib) (s : State) : Out := jumpFalse mask 2 (fun t => t.targetForward n) s

/-- Jump and link: the target is obtained before x[R1] is changed, the link register is written before
the trace trap (R270, R271, R274). -/
def jumpLink (len : Nat) (r1 : Reg) (target : State → Addr) (s : State) : Out :=
  transfer (fun t => jumpTo (target t) (t.writeReg r1 (pcImage (nextAddr t.pc len)))) s

/-- JAL (R270). -/
def execJal (r1 : Reg) (rx : RxAddr) (s : State) : Out :=
  jumpLink rx.length r1 (fun t => t.targetRx rx) s

/-- JALR (R271). -/
def execJalr (r1 r2 : Reg) (s : State) : Out := jumpLink 2 r1 (fun t => t.targetReg r2) s

/-- Jump on find first one: the number of the leftmost 1 of `v` goes to x[R1+1] (R272). -/
def jumpFirstOne {w : Nat} (r1 : Reg) (n : Nib) (v : State → BitVec w) (s : State) : Out :=
  transfer (fun t =>
    if v t = 0#w then .ok () (t.setPc (nextAddr t.pc 2))
    else
      jumpTo (t.targetForward n) (t.writeReg (nextReg r1) (BitVec.ofNat 32 (leftmostOne (v t))))) s

/-- JFFO (R272). -/
def execJffo (r1 : Reg) (n : Nib) (s : State) : Out := jumpFirstOne r1 n (fun t => t.reg r1) s

/-- JFFOH (R273). -/
def execJffoh (r1 : Reg) (n : Nib) (s : State) : Out := jumpFirstOne r1 n (fun t => t.regHalf r1) s

end Sys2Proof.Machine
end

