-- ==== Sys2Proof/Machine/ExtendedJump.lean ====
section
/-! DEFINITION. The extended jump mnemonics: a jump on condition with a fixed mask (`42_jump.md` R269,
`30_encoding.md` R133). -/

namespace Sys2Proof.Machine

/-- NOP: JT with mask 0 (R269). -/
def execNop (rx : RxAddr) (s : State) : Out := jumpTrue 0#4 rx.length (fun t => t.targetRx rx) s

/-- NOPR: JTR with mask 0 (R269). -/
def execNopr (r2 : Reg) (s : State) : Out := jumpTrue 0#4 2 (fun t => t.targetReg r2) s

/-- J: JF with mask 0 (R269). -/
def execJ (rx : RxAddr) (s : State) : Out := jumpFalse 0#4 rx.length (fun t => t.targetRx rx) s

/-- JR: JFR with mask 0 (R269). -/
def execJr (r2 : Reg) (s : State) : Out := jumpFalse 0#4 2 (fun t => t.targetReg r2) s

/-- JBS: JFBS with mask 0 (R269). -/
def execJbs (n : Nib) (s : State) : Out := jumpFalse 0#4 2 (fun t => t.targetBackward n) s

/-- JFS: JFFS with mask 0 (R269). -/
def execJfs (n : Nib) (s : State) : Out := jumpFalse 0#4 2 (fun t => t.targetForward n) s

/-- JE: JF with mask 3 (R269). -/
def execJe (rx : RxAddr) (s : State) : Out := jumpFalse 3#4 rx.length (fun t => t.targetRx rx) s

/-- JER: JFR with mask 3 (R269). -/
def execJer (r2 : Reg) (s : State) : Out := jumpFalse 3#4 2 (fun t => t.targetReg r2) s

/-- JEBS: JFBS with mask 3 (R269). -/
def execJebs (n : Nib) (s : State) : Out := jumpFalse 3#4 2 (fun t => t.targetBackward n) s

/-- JEFS: JFFS with mask 3 (R269). -/
def execJefs (n : Nib) (s : State) : Out := jumpFalse 3#4 2 (fun t => t.targetForward n) s

/-- JN: JT with mask 3 (R269). -/
def execJn (rx : RxAddr) (s : State) : Out := jumpTrue 3#4 rx.length (fun t => t.targetRx rx) s

/-- JNR: JTR with mask 3 (R269). -/
def execJnr (r2 : Reg) (s : State) : Out := jumpTrue 3#4 2 (fun t => t.targetReg r2) s

/-- JNBS: JTBS with mask 3 (R269). -/
def execJnbs (n : Nib) (s : State) : Out := jumpTrue 3#4 2 (fun t => t.targetBackward n) s

/-- JNFS: JTFS with mask 3 (R269). -/
def execJnfs (n : Nib) (s : State) : Out := jumpTrue 3#4 2 (fun t => t.targetForward n) s

/-- JG: JT with mask 2 (R269). -/
def execJg (rx : RxAddr) (s : State) : Out := jumpTrue 2#4 rx.length (fun t => t.targetRx rx) s

/-- JGR: JTR with mask 2 (R269). -/
def execJgr (r2 : Reg) (s : State) : Out := jumpTrue 2#4 2 (fun t => t.targetReg r2) s

/-- JGBS: JTBS with mask 2 (R269). -/
def execJgbs (n : Nib) (s : State) : Out := jumpTrue 2#4 2 (fun t => t.targetBackward n) s

/-- JGFS: JTFS with mask 2 (R269). -/
def execJgfs (n : Nib) (s : State) : Out := jumpTrue 2#4 2 (fun t => t.targetForward n) s

/-- JGE: JF with mask 1 (R269). -/
def execJge (rx : RxAddr) (s : State) : Out := jumpFalse 1#4 rx.length (fun t => t.targetRx rx) s

/-- JGER: JFR with mask 1 (R269). -/
def execJger (r2 : Reg) (s : State) : Out := jumpFalse 1#4 2 (fun t => t.targetReg r2) s

/-- JGEBS: JFBS with mask 1 (R269). -/
def execJgebs (n : Nib) (s : State) : Out := jumpFalse 1#4 2 (fun t => t.targetBackward n) s

/-- JGEFS: JFFS with mask 1 (R269). -/
def execJgefs (n : Nib) (s : State) : Out := jumpFalse 1#4 2 (fun t => t.targetForward n) s

/-- JLE: JF with mask 2 (R269). -/
def execJle (rx : RxAddr) (s : State) : Out := jumpFalse 2#4 rx.length (fun t => t.targetRx rx) s

/-- JLER: JFR with mask 2 (R269). -/
def execJler (r2 : Reg) (s : State) : Out := jumpFalse 2#4 2 (fun t => t.targetReg r2) s

/-- JLEBS: JFBS with mask 2 (R269). -/
def execJlebs (n : Nib) (s : State) : Out := jumpFalse 2#4 2 (fun t => t.targetBackward n) s

/-- JLEFS: JFFS with mask 2 (R269). -/
def execJlefs (n : Nib) (s : State) : Out := jumpFalse 2#4 2 (fun t => t.targetForward n) s

/-- JL: JT with mask 1 (R269). -/
def execJl (rx : RxAddr) (s : State) : Out := jumpTrue 1#4 rx.length (fun t => t.targetRx rx) s

/-- JLR: JTR with mask 1 (R269). -/
def execJlr (r2 : Reg) (s : State) : Out := jumpTrue 1#4 2 (fun t => t.targetReg r2) s

/-- JLBS: JTBS with mask 1 (R269). -/
def execJlbs (n : Nib) (s : State) : Out := jumpTrue 1#4 2 (fun t => t.targetBackward n) s

/-- JLFS: JTFS with mask 1 (R269). -/
def execJlfs (n : Nib) (s : State) : Out := jumpTrue 1#4 2 (fun t => t.targetForward n) s

/-- JC: JT with mask 8 (R269). -/
def execJc (rx : RxAddr) (s : State) : Out := jumpTrue 8#4 rx.length (fun t => t.targetRx rx) s

/-- JCR: JTR with mask 8 (R269). -/
def execJcr (r2 : Reg) (s : State) : Out := jumpTrue 8#4 2 (fun t => t.targetReg r2) s

/-- JCBS: JTBS with mask 8 (R269). -/
def execJcbs (n : Nib) (s : State) : Out := jumpTrue 8#4 2 (fun t => t.targetBackward n) s

/-- JCFS: JTFS with mask 8 (R269). -/
def execJcfs (n : Nib) (s : State) : Out := jumpTrue 8#4 2 (fun t => t.targetForward n) s

/-- JNC: JF with mask 8 (R269). -/
def execJnc (rx : RxAddr) (s : State) : Out := jumpFalse 8#4 rx.length (fun t => t.targetRx rx) s

/-- JNCR: JFR with mask 8 (R269). -/
def execJncr (r2 : Reg) (s : State) : Out := jumpFalse 8#4 2 (fun t => t.targetReg r2) s

/-- JNCBS: JFBS with mask 8 (R269). -/
def execJncbs (n : Nib) (s : State) : Out := jumpFalse 8#4 2 (fun t => t.targetBackward n) s

/-- JNCFS: JFFS with mask 8 (R269). -/
def execJncfs (n : Nib) (s : State) : Out := jumpFalse 8#4 2 (fun t => t.targetForward n) s

end Sys2Proof.Machine
end

