-- ==== Sys2Proof/Machine/Io.lean ====
section
/-! DEFINITION. I/O instructions (`45_io.md` R350 to R360). -/

namespace Sys2Proof.Machine

/-- CIO (R351): both display registers are read before x[R2] is written. -/
def execCio (r1 r2 : Reg) (s : State) : Out :=
  sequential 2 (fun t =>
    .ok ()
      ({ t with
        displayLeft := (t.reg (nextReg r1)).setWidth 20
        displayRight := t.regHalf r1 }.writeReg r2 (t.switches.setWidth 32))) s

/-- The condition code after an output: V says the device timed out (R359). -/
def afterOutput (answer : BusAnswer) (s : State) : State :=
  s.writeFlags (ioFlags (answer = .timeout))

/-- An output to a device: the operation is put on the bus, its operand read before (R353, R356). -/
def output (len : Nat) (op : Half → Half → BusOp) (r1 : Reg) (operand : State → Res Half) (s : State) :
    Out :=
  privileged (sequential len fun t =>
    (operand t).bind fun h u =>
      let b := busTransact (op (t.device r1) h) u
      .ok () (afterOutput b.1 b.2)) s

/-- SSR (R352, D25): a timeout delivers 0x0004 and CC 0100. -/
def execSsr (r1 r2 : Reg) (s : State) : Out :=
  privileged (sequential 2 fun t =>
    let b := busTransact (.sense (t.device r1)) t
    .ok ()
      (match b.1 with
      | .data d => (b.2.writeReg r2 (d.setWidth 32)).writeFlags (statusFlags d)
      | .timeout => (b.2.writeReg r2 4#32).writeFlags (ioFlags true))) s

/-- OC (R353). -/
def execOc (r1 : Reg) (rx : RxAddr) (s : State) : Out :=
  output rx.length .command r1 (operandIo rx) s

/-- OCR (R354). -/
def execOcr (r1 r2 : Reg) (s : State) : Out :=
  output 2 .command r1 (fun t => .ok (t.regHalf r2) t) s

/-- RDR (R355, D25): bits 0:15 of x[R2] are cleared; the data of a timeout is unspecified. -/
def execRdr (r1 r2 : Reg) (s : State) : Out :=
  privileged (sequential 2 fun t =>
    let b := busTransact (.read (t.device r1)) t
    .ok ()
      (match b.1 with
      | .data d => (b.2.writeReg r2 (d.setWidth 32)).writeFlags (ioFlags false)
      | .timeout =>
        (b.2.tick.writeReg r2 ((b.2.free.setWidth 16 : Half).setWidth 32)).writeFlags
          (ioFlags true))) s

/-- WD (R356). -/
def execWd (r1 : Reg) (rx : RxAddr) (s : State) : Out := output rx.length .write r1 (operandIo rx) s

/-- WDR (R357). -/
def execWdr (r1 r2 : Reg) (s : State) : Out := output 2 .write r1 (fun t => .ok (t.regHalf r2) t) s

end Sys2Proof.Machine
end

