-- ==== Sys2Proof/Machine/Logical.lean ====
section
/-! DEFINITION. Logical and test instructions, ARAND, Test and Set (`41_logical_shift_bit.md` R200 to
R218, R240). -/

namespace Sys2Proof.Machine

/-- A logical instruction: x[R1] combined with the operand goes to x[R1], with `CCload` (R200). -/
def logical (f : Word → Word → Word) (len : Nat) (operand : State → Res Word) (r1 : Reg) (s : State) :
    Out :=
  sequential len (fun t => (operand t).bind fun v u => loadTo r1 (f (u.reg r1) v) u) s

/-- A test instruction: only the condition code is written (R217, R218). -/
def test (len : Nat) (operand : State → Res Word) (r1 : Reg) (s : State) : Out :=
  sequential len (fun t => (operand t).bind fun v u => .ok () (u.loadFlags (u.reg r1 &&& v))) s

/-- N (R201). -/
def execN (r1 : Reg) (rx : RxAddr) (s : State) : Out :=
  logical (· &&& ·) rx.length (operandFull rx) r1 s

/-- NH (R202). -/
def execNh (r1 : Reg) (rx : RxAddr) (s : State) : Out :=
  logical (· &&& ·) rx.length (operandHalf rx) r1 s

/-- NI (R203). -/
def execNi (r1 x2 : Reg) (i2 : Word) (s : State) : Out :=
  logical (· &&& ·) 6 (operandOf fun t => t.immediateFull x2 i2) r1 s

/-- NHI (R204). -/
def execNhi (r1 x2 : Reg) (i2 : Half) (s : State) : Out :=
  logical (· &&& ·) 4 (operandOf fun t => t.immediateHalf x2 i2) r1 s

/-- NR (R205). -/
def execNr (r1 r2 : Reg) (s : State) : Out := logical (· &&& ·) 2 (operandOf fun t => t.reg r2) r1 s

/-- O (R206). -/
def execO (r1 : Reg) (rx : RxAddr) (s : State) : Out :=
  logical (· ||| ·) rx.length (operandFull rx) r1 s

/-- OH (R207). -/
def execOh (r1 : Reg) (rx : RxAddr) (s : State) : Out :=
  logical (· ||| ·) rx.length (operandHalf rx) r1 s

/-- OI (R208). -/
def execOi (r1 x2 : Reg) (i2 : Word) (s : State) : Out :=
  logical (· ||| ·) 6 (operandOf fun t => t.immediateFull x2 i2) r1 s

/-- OHI (R209). -/
def execOhi (r1 x2 : Reg) (i2 : Half) (s : State) : Out :=
  logical (· ||| ·) 4 (operandOf fun t => t.immediateHalf x2 i2) r1 s

/-- OR (R210). -/
def execOr (r1 r2 : Reg) (s : State) : Out := logical (· ||| ·) 2 (operandOf fun t => t.reg r2) r1 s

/-- X (R211). -/
def execX (r1 : Reg) (rx : RxAddr) (s : State) : Out :=
  logical (· ^^^ ·) rx.length (operandFull rx) r1 s

/-- XH (R212). -/
def execXh (r1 : Reg) (rx : RxAddr) (s : State) : Out :=
  logical (· ^^^ ·) rx.length (operandHalf rx) r1 s

/-- XI (R213). -/
def execXi (r1 x2 : Reg) (i2 : Word) (s : State) : Out :=
  logical (· ^^^ ·) 6 (operandOf fun t => t.immediateFull x2 i2) r1 s

/-- XHI (R214). -/
def execXhi (r1 x2 : Reg) (i2 : Half) (s : State) : Out :=
  logical (· ^^^ ·) 4 (operandOf fun t => t.immediateHalf x2 i2) r1 s

/-- XR (R215). -/
def execXr (r1 r2 : Reg) (s : State) : Out := logical (· ^^^ ·) 2 (operandOf fun t => t.reg r2) r1 s

/-- TI (R217). -/
def execTi (r1 x2 : Reg) (i2 : Word) (s : State) : Out :=
  test 6 (operandOf fun t => t.immediateFull x2 i2) r1 s

/-- THI (R218). -/
def execThi (r1 x2 : Reg) (i2 : Half) (s : State) : Out :=
  test 4 (operandOf fun t => t.immediateHalf x2 i2) r1 s

/-! ## ARAND (R216, log 32) -/

/-- The search of two bit arrays from their last halfwords, `n` of them left: the number of the bit
found, if any. It ends at a MAC fault. -/
def searchArrays : Nat → Word → Word → State → Res (Option Nat)
  | 0, _, _, s => .ok none s
  | j + 1, p, q, s =>
    (readHalf p s).bind fun a t =>
      (readHalf q t).bind fun b u =>
        if u.pend.mac then .ok none u
        else if a &&& b = 0#16 then searchArrays j (p - 2#32) (q - 2#32) u
        else .ok (some (16 * j + leftmostOne (a &&& b))) u

/-- What ARAND leaves unspecified: both addresses and the condition code (R216). -/
def State.afterArand (s : State) (r1 : Reg) : State := ((s.freeReg r1).freeReg (nextReg r1)).freeCc

/-- ARAND (R216): nbits is x[R2] + 1 modulo 2^32. x[R2] is written before x[R1] and x[R1+1] are left
unspecified. A count of bits that is not a multiple of 16 is refused, as R216, U20 and D31 say: the manual
does not settle the behaviour. It runs to its end in one step: whether it can be interrupted is open, and
R459 names COPY and CKSUM alone (log 32). -/
def execArand (r1 r2 : Reg) (s : State) : Out :=
  sinceS15 (transfer fun t =>
    let nbits := (t.reg r2 + 1#32).toNat
    if nbits % 16 = 0 then
      (searchArrays (nbits / 16) (t.reg r1) (t.reg (nextReg r1)) t).bind fun found u =>
        if u.pend.mac then
          .ok () (((u.freeReg r2).afterArand r1).setPcEither (nextAddr s.pc 2) (nextAddr s.pc 4))
        else
          match found with
          | some b =>
            .ok () (((u.setReg r2 (BitVec.ofNat 32 b)).afterArand r1).setPc (nextAddr s.pc 2))
          | none => .ok () (((u.freeReg r2).afterArand r1).setPc (nextAddr s.pc 4))
    else .refused .arandPartialHalfword) s

/-! ## Test and Set -/

/-- TS (R240): the R1 field is not used. -/
def execTs (_r1 : Reg) (rx : RxAddr) (s : State) : Out :=
  sequential rx.length (fun t =>
    (testAndSetAt (evenAddr (programAddr (t.effAddr rx))) t).bind fun h u =>
      .ok () (u.loadFlags (h.signExtend 32))) s

end Sys2Proof.Machine
end

