-- ==== Sys2Proof/Machine/Shift.lean ====
section
/-! DEFINITION. Shifts and rotates (`41_logical_shift_bit.md` R220 to R230, `43_arithmetic.md` R319). -/

namespace Sys2Proof.Machine

/-- Flags after a shift: C is the last bit shifted out, unspecified if there was none; G and L are those
of the result tested (R220 (c), (d)). -/
def State.shiftFlags {w : Nat} (s : State) (last : Option Bool) (tested : BitVec w) : State :=
  match last with
  | some c => s.writeFlags (signFlags c tested)
  | none => s.tick.writeFlags (signFlags s.freeBit tested)

/-- A fullword shift, `n` places one at a time (R220). -/
def shiftFull (one : Word → Bool × Word) (len : Nat) (count : State → Nat) (r1 : Reg) (s : State) :
    Out :=
  sequential len (fun t =>
    let r := shiftTimes one (count t) none (t.reg r1)
    .ok () ((t.writeReg r1 r.2).shiftFlags r.1 r.2)) s

/-- Flags after a halfword shift: `HALFSHIFT_CC_WIDTH` says what is tested (R220 (d), D10). -/
def State.halfShiftFlags (s : State) (last : Option Bool) (h : Half) (w : Word) : State :=
  match s.params.halfShift with
  | .width16 => s.shiftFlags last h
  | .width32 => s.shiftFlags last w

/-- A halfword shift: bits 0:15 of the register stay (R225, R227). -/
def shiftHalf (one : Half → Bool × Half) (len : Nat) (count : State → Nat) (r1 : Reg) (s : State) :
    Out :=
  sequential len (fun t =>
    let r := shiftTimes one (count t) none (t.regHalf r1)
    let w := withHalf true (t.reg r1) r.2
    .ok () ((t.writeReg r1 w).halfShiftFlags r.1 r.2 w)) s

/-- A rotate: C is unspecified (R220 (c)). -/
def rotate (one : Word → Bool × Word) (len : Nat) (count : State → Nat) (r1 : Reg) (s : State) : Out :=
  sequential len (fun t =>
    let v := (shiftTimes one (count t) none (t.reg r1)).2
    .ok () ((t.writeReg r1 v).loadFlags v)) s

/-- SLL (R221). -/
def execSll (r1 : Reg) (rx : RxAddr) (s : State) : Out :=
  shiftFull leftOne rx.length (fun t => t.shiftCount rx) r1 s

/-- SLLS (R222). -/
def execSlls (r1 : Reg) (n : Nib) (s : State) : Out := shiftFull leftOne 2 (fun _ => n.toNat) r1 s

/-- SRL (R223). -/
def execSrl (r1 : Reg) (rx : RxAddr) (s : State) : Out :=
  shiftFull rightOne rx.length (fun t => t.shiftCount rx) r1 s

/-- SRLS (R224). -/
def execSrls (r1 : Reg) (n : Nib) (s : State) : Out := shiftFull rightOne 2 (fun _ => n.toNat) r1 s

/-- SLHL (R225). -/
def execSlhl (r1 : Reg) (rx : RxAddr) (s : State) : Out :=
  shiftHalf leftOne rx.length (fun t => t.shiftCount rx) r1 s

/-- SLHLS (R226). -/
def execSlhls (r1 : Reg) (n : Nib) (s : State) : Out := shiftHalf leftOne 2 (fun _ => n.toNat) r1 s

/-- SRHL (R227). -/
def execSrhl (r1 : Reg) (rx : RxAddr) (s : State) : Out :=
  shiftHalf rightOne rx.length (fun t => t.shiftCount rx) r1 s

/-- SRHLS (R228). -/
def execSrhls (r1 : Reg) (n : Nib) (s : State) : Out := shiftHalf rightOne 2 (fun _ => n.toNat) r1 s

/-- RLL (R229). -/
def execRll (r1 : Reg) (rx : RxAddr) (s : State) : Out :=
  rotate rotateLeftOne rx.length (fun t => t.shiftCount rx) r1 s

/-- RRL (R230). -/
def execRrl (r1 : Reg) (rx : RxAddr) (s : State) : Out :=
  rotate rotateRightOne rx.length (fun t => t.shiftCount rx) r1 s

/-- SRA (R319). -/
def execSra (r1 : Reg) (rx : RxAddr) (s : State) : Out :=
  shiftFull arithmeticOne rx.length (fun t => t.shiftCount rx) r1 s

end Sys2Proof.Machine
end

