-- ==== Sys2Proof/Machine/Special.lean ====
section
/-! DEFINITION. The special microcoded instructions (`46_special.md` R370 to R392). Their legality
checks, register conventions and returns are the spec's, and so is what the rules say of their bodies; the
rest of what these compute is not in any source (D31), so it is free: every value they may leave behind
stands for itself (log 33). -/

namespace Sys2Proof.Machine

/-- What an undescribed body leaves: memory, some registers and the condition code free, and perhaps a
MAC fault. -/
def State.undescribed (s : State) (rs : List Reg) : State :=
  (rs.foldl State.freeReg s.scribble.mayFault).freeCc

/-- The same for a body that stores nothing. -/
def State.undescribedRead (s : State) (rs : List Reg) : State := (rs.foldl State.freeReg s.mayFault).freeCc

/-! ## Async (R370 to R374) -/

/-- An async instruction: unassigned without the async microcode, illegal with psw.A = 0 (R370,
R128). -/
def asyncOnly (meaning : State → Out) (s : State) : Out :=
  if s.params.enhancedAsync && s.psw.a then meaning s else takeIllegal s

/-- The registers of sets 1 to 4, which the async microcode owns (R400). -/
def ownedByAsync (k : Nat) : Bool := 16 ≤ k && k < 80

/-- The footprint of an async instruction: the register sets the microcode owns, memory, some registers
of the current set, the condition code. -/
def State.asyncBody (s : State) (rs : List Reg) : State := (s.freeRegs ownedByAsync).undescribed rs

/-- The places of the bit array SBOD looks at: one halfword for each group of ports, at program addresses
(R93, R371). -/
def portArray (p : Config.Params) (start : Word) : List Word :=
  (List.range p.asyncGroups).map fun k => start + BitVec.ofNat 32 (2 * k)

/-- The ports whose bits are set in a bit array, bit 0 leftmost. -/
def portsOf (hs : List Half) : List Nat :=
  (List.range (16 * hs.length)).filter fun p => (hs.getD (p / 16) 0#16).getMsbD (p % 16)

/-- SBOD has found a port: RP (14) is the port and RP2 (13) twice the port (R371). -/
def State.foundPort (s : State) (port : Nat) : State :=
  (s.writeReg 14#4 (BitVec.ofNat 32 port)).writeReg 13#4 (BitVec.ofNat 32 (2 * port))

/-- What SBOD leaves besides its return and its port where the async constants do not stand. That the
register R1 names is among it, its use being open, is the model's choice (R371; DESIGN CHOICE, log 33). -/
def State.sbodBody (s : State) (r1 : Reg) : State := s.asyncBody [r1, 14#4, 13#4]

/-- The same where they do: the working registers, x[R1] and the condition code (DESIGN CHOICE, log 33). -/
def State.sbodWorks (s : State) (r1 : Reg) : State := ((s.freeRegs workedByAsync).freeReg r1).freeCc

/-- SBOD where the async constants do not stand as R400 requires: what it meets in its storage is open, and
it leaves by one of its three returns, to the output return with a port that has output pending. -/
def sbodOpen (r1 r2 : Reg) (t : State) : Res Unit :=
  if t.freeBit then
    let u := t.tick.sbodBody r1
    .ok () ((u.tick.foundPort (u.free.toNat % (16 * t.params.asyncGroups))).setPc (nextAddr t.pc 6))
  else
    (readHalves (portArray t.params (t.reg r2)) t.tick).bind fun hs v =>
      let ports := portsOf hs
      let u := v.sbodBody r1
      if ports = [] ∨ u.freeBit = true then .ok () (u.tick.setPc (nextAddr t.pc 2))
      else
        .ok ()
          ((u.tick.tick.foundPort (ports.getD (u.tick.free.toNat % ports.length) 0)).setPc
            (nextAddr t.pc 10))

/-- The ports with output pending in a bit array and TAM on (R371). -/
def State.outputPorts (s : State) (hs : List Half) : List Nat := (portsOf hs).filter s.tamOn

/-- The input return of SBOD: one of the ports with SBA on, whose SBA is turned off (R371, R402). -/
def State.sbodInput (s : State) (r1 : Reg) : State :=
  let port := s.inputPorts.getD (s.free.toNat % s.inputPorts.length) 0
  (((s.tick.setSba port false).sbodWorks r1).foundPort port).setPc (nextAddr s.pc 6)

/-- The third function of SBOD, when SBX has caught up: one of the ports with output pending and TAM on, or
done (R371). -/
def State.sbodOutput (s : State) (r1 : Reg) (ports : List Nat) : State :=
  let u := s.tick.sbodWorks r1
  if ports = [] then u.setPc (nextAddr s.pc 2)
  else (u.foundPort (ports.getD (s.free.toNat % ports.length) 0)).setPc (nextAddr s.pc 10)

/-- The three functions of SBOD in their order (R371, R403): SBX advances some way, and if there is input
under it, which the open contents of the ring say, that is the return; else it advances until it has
caught up, and the bit array x[R2] names is looked at. After a MAC fault all is open (R465). -/
def sbodScan (r1 r2 : Reg) (s : State) : Res Unit :=
  let behind := s.stepsBehind
  let steps := s.tick.free.toNat % (behind + 1)
  (scanSteps s.freeBit steps s.tick.tick).bind fun _ t =>
    if t.pend.mac then sbodOpen r1 r2 t
    else if t.freeBit ∧ t.inputPorts ≠ [] then .ok () (t.tick.sbodInput r1)
    else
      (scanSteps s.freeBit (behind - steps) t.tick).bind fun _ u =>
        (readHalves (portArray s.params (s.reg r2)) u).bind fun hs v =>
          if v.pend.mac then sbodOpen r1 r2 v else .ok () (v.sbodOutput r1 (v.outputPorts hs))

/-- SBOD (R371): a + 2 if done, a + 6 for input, a + 10 for output, with the port. -/
def execSbod (r1 r2 : Reg) (s : State) : Out :=
  asyncOnly (transfer fun t => if t.asyncReady then sbodScan r1 r2 t else sbodOpen r1 r2 t) s

/-- XMIT (R372): the character goes into the ring, LCTIME of the port and TAM follow; normal return. Where
the registers and storage do not stand as R400 and R372 expect, what it does is open. -/
def execXmit (r1 r2 : Reg) (s : State) : Out :=
  asyncOnly (sequential 2 fun t =>
    if t.xmitReady then transmit r1 r2 t else .ok () (t.asyncBody [r1, r2])) s

/-- SPM (R373): a + 2, or a + 4 with the count of samples, at most 36, in x[R1]. That x[R2], the use of the
field being open, ends with a free value is the model's choice (DESIGN CHOICE, log 33). -/
def execSpm (r1 r2 : Reg) (s : State) : Out :=
  asyncOnly (transfer fun t =>
    let u := t.asyncBody [r2, r1]
    let skip := u.freeBit
    let count := BitVec.ofNat 32 ((u.reg r1).toNat % 37)
    .ok ()
      ((u.tick.setReg r1 (if skip then count else u.reg r1)).setPc
        (nextAddr t.pc (if skip then 4 else 2)))) s

/-- GCHAR with all as it expects (R374): the character is sampled from the ring by CLNGTH and BLNGTH, and the
port is linked into the control ring; a character without a stop-baud, which is marking, is a break. Where in
register 0 the character stands, and what stands beside it, is open; it stands there if R1 names register 0
too. -/
def receive (r1 r2 : Reg) (s : State) : Res Unit :=
  let rate := s.reg r2
  let port := (s.reg 14#4).toNat
  (readHalf (s.receiveAddr rate) s).bind fun length t =>
    (readHalf (s.centerAddr rate) t).bind fun center t' =>
      (readHalf (s.baudAddr rate) t').bind fun baud t'' =>
        (readHalves (s.sampleCells t''.freeBit (port / 16) center.toNat baud.toNat) t''.tick).bind fun hs u =>
          (linkPort port length u).bind fun _ v =>
            let bauds := hs.map fun h => h.getMsbD (port % 16)
            let char := withChar v.tick.free (v.free.toNat / 2 % 25) (charOf v.freeBit (bauds.take 8))
            let x := (((v.tick.tick.freeRegs workedByAsync).freeReg r1).writeReg 0#4 char).freeCc
            .ok ()
              (if x.pend.mac then x.setPcEither (nextAddr s.pc 2) (nextAddr s.pc 6)
              else x.setPc (nextAddr s.pc (if bauds.getD 8 true then 2 else 6)))

/-- GCHAR (R374): a + 2 for a character, a + 6 for a break; the character is in register 0. Where the
registers and storage do not stand as R374 and R400 expect, what else it does is open. That x[R1], the use of
the field being open, ends with a free value is the model's choice (DESIGN CHOICE, log 33). -/
def execGchar (r1 r2 : Reg) (s : State) : Out :=
  asyncOnly (transfer fun t =>
    if t.portReady (t.reg r2) then receive r1 r2 t
    else .ok () ((t.asyncBody [r1, 0#4]).setPcEither (nextAddr t.pc 2) (nextAddr t.pc 6))) s

/-! ## Sync (R380 to R383) -/

/-- How far the trailing pointer is behind the lead pointer, round the 0x100-byte ring (R381). -/
def ringDistance (lead trail : Word) : Nat := ((lead - trail).setWidth 8 : Byte).toNat

/-- The search of the input ring at `ring` for an entry that is not marking, from the trailing pointer on
while it is at least 0x10 bytes behind the lead pointer, indices modulo 0x100 (R381). The unit of an
entry, a halfword or a byte, is open (log 33). -/
def scanRing (halves : Bool) (ring lead : Word) : Nat → Word → State → Res Bool
  | 0, _, s => .ok false s
  | n + 1, trail, s =>
    if ringDistance lead trail < 16 then .ok false s
    else
      let place := ring + ((trail.setWidth 8 : Byte).setWidth 32)
      if halves then
        (readHalf place s).bind fun h t =>
          if h = 0xFFFF#16 then scanRing halves ring lead n (trail + 2#32) t else .ok true t
      else
        (readByte place s).bind fun b t =>
          if b = 0xFF#8 then scanRing halves ring lead n (trail + 1#32) t else .ok true t

/-- SCAN (R381): a + 2 if data other than marking is met, a + 4 if not. -/
def execScan (r1 r2 : Reg) (s : State) : Out :=
  sinceS15 (transfer fun t =>
    (scanRing t.freeBit (t.reg r2) (t.reg r1) 256 (t.reg (nextReg r1)) t.tick).bind fun hit u =>
      let v := (u.freeReg (nextReg r1)).freeCc
      .ok ()
        (if u.pend.mac then v.setPcEither (nextAddr t.pc 2) (nextAddr t.pc 4)
        else v.setPc (nextAddr t.pc (if hit then 2 else 4)))) s

/-- ALIGN (R382): halfwords of unspecified values go to the sector at register 8, as many as register 1
says, unless that address is negative. That the number is unsigned, of 32 bits, is the model's choice (DESIGN
CHOICE, log 33). -/
def execAlign (r1 r2 : Reg) (s : State) : Out :=
  sinceS15 (sequential 2 fun t =>
    (if (t.reg 8#4).msb then .ok () t
    else
      writeFreeHalves
        ((List.range (t.reg 1#4).toNat).map fun k => t.reg 8#4 + BitVec.ofNat 32 (2 * k))
        t).bind fun _ u =>
        .ok () (u.undescribedRead [1#4, 3#4, 5#4, 7#4, 8#4, 10#4, r1, r2])) s

/-- Is the byte count of CKSUM, a negative number, legal (R383)? -/
def cksumLegal (level : Config.MicrocodeLevel) (n : Word) : Bool :=
  match level with
  | .belowS15 => false
  | .s15 => n.toInt ≤ 0 && -n.toInt ≤ 0x80
  | .s18 => n.toInt ≤ 0 && !n.getLsbD 0

/-- How many bytes CKSUM takes before it refetches itself (R383). -/
def cksumChunk (level : Config.MicrocodeLevel) (n : Word) : Nat :=
  match level with
  | .s18 => min 0x40 (-n.toInt).toNat
  | _ => (-n.toInt).toNat

/-- The addresses of the halfwords of `bytes` bytes from `start` on. -/
def halvesFrom (start : Word) (bytes : Nat) : List Word :=
  (List.range ((bytes + 1) / 2)).map fun k => start + BitVec.ofNat 32 (2 * k)

/-- CKSUM at S.18 after one portion: the count and the address advance; the instruction starts again
until the count is 0, when both are left open (R383). A count that is 0 at the start moves nothing and ends
the instruction at once: that is the model's choice, which the spec presumes and does not state (DESIGN
CHOICE, log 33). -/
def State.cksumAdvance (s : State) (r2 : Reg) (bytes : Nat) : State :=
  let n := s.reg 0#4 + BitVec.ofNat 32 bytes
  let u := (s.writeReg r2 (s.reg r2 + BitVec.ofNat 32 bytes)).writeReg 0#4 n
  if n = 0#32 then ((u.freeReg r2).freeReg 0#4).setPc (nextAddr s.pc 2) else u

/-- CKSUM (R383): the checksums in x[R1] and x[R1+1] are unspecified. With a count of 0 it reads nothing and
ends (DESIGN CHOICE, log 33). -/
def execCksum (r1 r2 : Reg) (s : State) : Out :=
  if cksumLegal s.params.microcode (s.reg 0#4) then
    transfer (fun t =>
      let bytes := cksumChunk t.params.microcode (t.reg 0#4)
      (readHalves (halvesFrom (t.reg r2) bytes) t).bind fun _ u =>
        let v :=
          match u.params.microcode with
          | .s18 => u.cksumAdvance r2 bytes
          | _ => u.setPc (nextAddr t.pc 2)
        .ok () (((v.freeReg r1).freeReg (nextReg r1)).freeCc)) s
  else takeIllegal s

/-! ## Bufferlets (R385 to R392) -/

/-- The address of the k-th halfword after the instruction: its in-line data (R385). -/
def inlineAddr (a : Addr) (k : Nat) : Word := pcImage a + BitVec.ofNat 32 (2 * k)

/-- The place an in-line offset names: relative to the instruction, sign-extended (R386, log 33). -/
def offsetTarget (a : Addr) (h : Half) : Addr := a + h.signExtend 20

/-- The place that the k-th in-line halfword of the instruction at `a` names. -/
def inlineTarget (a : Addr) (k : Nat) (s : State) : Res Addr :=
  (readHalf (inlineAddr a k) s).bind fun h t => .ok (offsetTarget a h) t

/-- The error return of GCI and WCI, to the routine the second in-line halfword names: nothing has been
stored (R386, R387). -/
def inlineError (rs : List Reg) (t : State) : Res Unit :=
  (inlineTarget t.pc 2 t).bind fun a u => loadPc a ((rs.foldl State.freeReg u).freeCc)

/-- The fullword of a buffer: element `index` of the array whose address over 4 is the in-line halfword
(R386, R387, R395). -/
def bufferWord (quarter : Half) (index : Word) : Word := 4#32 * quarter.setWidth 32 + index

/-- Is a bufferlet exhausted: are the low four bits of the character address zero (R396)? -/
def bufferletEnd (p : Word) : Bool := p.setWidth 4 == 0#4

/-- Where GCI goes when BB has advanced from `p`, with `be` in BE: to NEXT if the bufferlet is exhausted,
to LAST if the buffer is now empty, to one of the two if both hold, else past its in-line data (R386).
Whether BE is the address of the last character or of the next one to be filled is open (R395). -/
def gciNext (a : Addr) (p be : Word) (s : State) : Res Addr :=
  let empty := if s.freeBit then be == p else be == p + 1#32
  if bufferletEnd (p + 1#32) then
    inlineTarget a (if empty && s.tick.freeBit then 5 else 4) s.tick.tick
  else if empty then inlineTarget a 5 s.tick.tick
  else .ok (nextAddr a 12) s.tick.tick

/-- GCI (R386): a bad index or an empty buffer goes to ERROR; else the byte at BB[index] goes to x[R1],
BB[index] advances in memory and is left in register 3, and control goes on. That the index is compared
with 4*NBUF as an unsigned number of 32 bits, and 4*NBUF is the in-line halfword zero-extended, is the model's
choice, and so is that the character goes to the low byte of x[R1], whose other bits are open (DESIGN CHOICE,
log 33). With R1 = 3 both the character and BB[index] go to register 3, in an order that is not given: the
model's choice is a free value there (DESIGN CHOICE, log 33). Whether BCT[index] changes too is open
(log 33). -/
def execGci (r1 r2 : Reg) (s : State) : Out :=
  sinceS15 (transfer fun t =>
    (readHalf (inlineAddr t.pc 1) t).bind fun size u =>
      let nbuf4 : Word := size.setWidth 32
      if nbuf4 ≤ t.reg r2 then inlineError [r1, 3#4] u
      else
        (readHalf (inlineAddr t.pc 3) u).bind fun quarter v =>
          let place := bufferWord quarter (t.reg r2)
          (readFull place v).bind fun p w =>
            if p = 0#32 then inlineError [r1, 3#4] w
            else
              (readFull (place + nbuf4) w).bind fun be w' =>
                (readByte p w').bind fun b x =>
                  (gciNext t.pc p be x).bind fun onward y =>
                    (writeFull place (p + 1#32) (y.openHalf (place + 2#32 * nbuf4 + 2#32))).bind fun _ z =>
                      let z1 := z.freeReg r1
                      let z2 :=
                        (z1.writeReg r1 ((z1.reg r1).extractLsb' 8 24 ++ b)).writeReg 3#4 (p + 1#32)
                      loadPc onward (if r1 = 3#4 then (z2.freeReg 3#4).freeCc else z2.freeCc)) s

/-- The character of WCI is stored: at BE if BE is the next byte to be filled; after it if BE is the
last character and the bufferlet has room for one more. Which of the two BE is, is open (R395). With BE the
last character and no room, whether the character is stored is not said: the model's choice is that it is
not (DESIGN CHOICE, log 33). -/
def wciStore (lastFilled : Bool) (be : Word) (b : Byte) (s : State) : Res Unit :=
  if lastFilled then
    if bufferletEnd (be + 1#32) then .ok () s else writeByte (be + 1#32) b s
  else writeByte be b s

/-- WCI (R387): a bad index goes to ERROR; an empty buffer, whose BE[index] is 0 (R395), to FIRST; else
the character of x[R1] is stored, BE[index] advances in memory, and control goes on, or to NEXT if the
bufferlet is full (R396). That BE[index] advances too, to the address ending in 0, when the bufferlet was
full already and the character is not stored, is the model's choice (DESIGN CHOICE, log 33), and so is the
unsigned comparison of the index with the zero-extended halfword, as in GCI, and that the character is the low
byte of x[R1]. Register 3 and BCT[index] are
open. -/
def execWci (r1 r2 : Reg) (s : State) : Out :=
  sinceS15 (transfer fun t =>
    (readHalf (inlineAddr t.pc 1) t).bind fun size u =>
      let nbuf4 : Word := size.setWidth 32
      if nbuf4 ≤ t.reg r2 then inlineError [3#4] u
      else
        (readHalf (inlineAddr t.pc 3) u).bind fun quarter v =>
          let place := bufferWord quarter (t.reg r2)
          (readFull place v).bind fun be w =>
            if be = 0#32 then
              (inlineTarget t.pc 5 w).bind fun onward x => loadPc onward ((x.freeReg 3#4).freeCc)
            else
              (if bufferletEnd (be + 1#32) then inlineTarget t.pc 4 w
              else .ok (nextAddr t.pc 12) w).bind fun onward x =>
                (wciStore x.freeBit be ((t.reg r1).setWidth 8)
                    (x.tick.openHalf (place + nbuf4 + 2#32))).bind fun _ y =>
                  (writeFull place (be + 1#32) y).bind fun _ z =>
                    loadPc onward ((z.freeReg 3#4).freeCc)) s

/-- CBCT (R388): the size of a buffer, which is not computed here, goes to x[R1]; two in-line
halfwords. It stores nothing: whether it leaves the size in BCT too is open (N26), and the model's
choice is that it does not (DESIGN CHOICE, log 33). -/
def execCbct (r1 _r2 : Reg) (s : State) : Out :=
  sinceS15 (sequential 6 fun t => .ok () (t.undescribedRead [r1])) s

/-! ## The copies of RTD and RMA (R389 to R392, log 33) -/

/-- Where a copy has come to: how it leaves (0 past its in-line data, 1 to NEXT, 2 to 5 to CHAR0 to CHAR3),
the count of characters left, and what registers 12 and 3 are then. -/
structure Moved where
  leave : Nat
  count : Nat
  record : Word
  buffer : Word
  deriving DecidableEq, Repr

/-- The character address of the bufferlet: after BE, the last character input, for RTD; BB, the next
character to be output, for RMA (R389, R391). -/
def bufferPlace (toBuffer : Bool) (buffer : Word) : Word := if toBuffer then buffer + 1#32 else buffer

/-- One character is copied: for RTD from the record at register 12 to the bufferlet; for RMA from the
bufferlet to the record after register 12. The first of RMA may come from the halfword of the bufferlet
that R1 was given, and go to the record beside what the one it was given holds, since those are the
current halfwords (R389): whether it uses R1 or memory there is open. -/
def moveChar (toBuffer : Bool) (held : Option Word) (record buffer : Word) (s : State) : Res Byte :=
  if toBuffer then
    (readByte record s).bind fun b t => (writeByte (buffer + 1#32) b t).bind fun _ u => .ok b u
  else
    match held with
    | some w =>
      let b := byteAt (programAddr buffer) (halfOf true w)
      (writeHalf (record + 1#32) (withByteAt (programAddr (record + 1#32)) (halfOf false w) b) s).bind
        fun _ t => .ok b t
    | none => (readByte buffer s).bind fun b t => (writeByte (record + 1#32) b t).bind fun _ u => .ok b u

/-- The copy of a count of characters. At the end of a bufferlet it leaves to NEXT, with the character
address in register 3 (R396); after a character of code k from 0 to 3 it leaves to CHARk, the character
stored and the count not yet decremented (R392). With the count at 0 it is done, or, at the end of a
bufferlet as well, perhaps leaves to NEXT: the order of these tests is the model's choice (DESIGN CHOICE,
log 33). It ends at a MAC fault. -/
def moveRecord (toBuffer : Bool) : Nat → Option Word → Word → Word → State → Res Moved
  | 0, _, record, buffer, s =>
    if bufferletEnd (bufferPlace toBuffer buffer) ∧ s.freeBit then
      .ok ⟨1, 0, record, bufferPlace toBuffer buffer⟩ s.tick
    else .ok ⟨0, 0, record, buffer⟩ s.tick
  | n + 1, held, record, buffer, s =>
    if bufferletEnd (bufferPlace toBuffer buffer) then
      .ok ⟨1, n + 1, record, bufferPlace toBuffer buffer⟩ s
    else
      (moveChar toBuffer held record buffer s).bind fun b t =>
        if t.pend.mac then .ok ⟨0, n + 1, record, buffer⟩ t
        else if b.toNat < 4 then .ok ⟨b.toNat + 2, n + 1, record + 1#32, buffer + 1#32⟩ t
        else moveRecord toBuffer n none (record + 1#32) (buffer + 1#32) t

/-- What a copy leaves in the registers: x[R1] and the condition code open, the count in x[R2], the
addresses in registers 12 and 3, which stand where R1 or R2 names one of these too (log 33). -/
def State.afterMove (s : State) (r1 r2 : Reg) (m : Moved) : State :=
  ((((s.freeReg r1).writeReg r2 (BitVec.ofNat 32 m.count)).writeReg 12#4 m.record).writeReg 3#4
    m.buffer).freeCc

/-- The body of RTD and RMA, whose second instruction is at `base`: the copy, then on past the in-line data
there, or to one of the five routines it names (R389 to R392). -/
def recordCopy (toBuffer : Bool) (base : Addr) (r1 r2 : Reg) (s : State) : Res Unit :=
  let held := if s.freeBit then some (s.reg r1) else none
  (moveRecord toBuffer (s.reg r2).toNat held (s.reg 12#4) (s.reg 3#4) s.tick).bind fun m t =>
    (if m.leave = 0 then .ok (nextAddr base 12) t else inlineTarget base m.leave t).bind fun onward u =>
      loadPc onward (u.afterMove r1 r2 m)

/-- RTD1 (R391): the initial entry; RTD2 follows at once. -/
def execRtd1 (r1 r2 : Reg) (s : State) : Out :=
  sinceS15 (transfer fun t => recordCopy true (nextAddr t.pc 2) r1 r2 t) s

/-- RTD2 (R392): the return to the microcode. -/
def execRtd2 (r1 r2 : Reg) (s : State) : Out :=
  sinceS15 (transfer fun t => recordCopy true t.pc r1 r2 t) s

/-- RMA1 (R389): the initial entry; RMA2 follows at once. -/
def execRma1 (r1 r2 : Reg) (s : State) : Out :=
  sinceS15 (transfer fun t => recordCopy false (nextAddr t.pc 2) r1 r2 t) s

/-- RMA2 (R390): the return to the microcode. -/
def execRma2 (r1 r2 : Reg) (s : State) : Out :=
  sinceS15 (transfer fun t => recordCopy false t.pc r1 r2 t) s

end Sys2Proof.Machine
end

