-- ==== Sys2Proof/Machine/Status.lean ====
section
/-! DEFINITION. Status switching instructions (`44_status_switching.md` R330 to R337). -/

namespace Sys2Proof.Machine

/-- The two fullwords of a 64-bit operand: PSW image and PC image (R331). -/
def readPswAndPc (ea : Word) (s : State) : Res (Word × Word) :=
  (readFull ea s).bind fun w0 t => (readFull (ea + 4#32) t).bind fun w1 u => .ok (w0, w1) u

/-- LPSW (R331): the R1 field is not used. -/
def execLpsw (_r1 : Reg) (rx : RxAddr) (s : State) : Out :=
  privileged (transfer fun t =>
    (readPswAndPc (t.effAddr rx) t).bind fun w u => loadPswAndPc w.1 w.2 u) s

/-- LPSWR (R333): the PSW from x[R2], the location from x[R1]. -/
def execLpswr (r1 r2 : Reg) (s : State) : Out :=
  privileged (transfer fun t => loadPswAndPc (t.reg r2) (t.reg r1) t) s

/-- UPSW (R332): only T and the condition code are loaded, and the location; the R1 field is not
used. -/
def execUpsw (_r1 : Reg) (rx : RxAddr) (s : State) : Out :=
  transfer (fun t =>
    (readPswAndPc (t.effAddr rx) t).bind fun w u =>
      let q := Psw.ofImage w.1
      loadPc (pcOfImage w.2)
        ((u.writeTrace q.t).writeFlags { c := q.c, v := q.v, g := q.g, l := q.l })) s

/-- EPSR (R334): x[R1] of the old set takes the old PSW; if R1 and R2 are one register, the PSW is only
read. -/
def execEpsr (r1 r2 : Reg) (s : State) : Out :=
  privileged (sequential 2 fun t =>
    .ok ()
      (if r1 = r2 then t.writeReg r1 t.psw.image
      else (t.writeReg r1 t.psw.image).loadPsw (Psw.ofImage (t.reg r2)))) s

/-- The new PSW of a supervisor call is at 0x98, the routine addresses from 0x9C on (R336). -/
def svcEntry (k : Nib) : Addr := 0x9C#20 + 2#20 * k.setWidth 20

/-- SVC (R336): the effective address, the old PSW and the location of the next instruction go to
registers 13, 14, 15 of the set the new PSW selects. -/
def execSvc (r1 : Reg) (rx : RxAddr) (s : State) : Out :=
  transfer (fun t =>
    (absReadFull 0x98#20 t).bind fun newPsw u =>
      (absReadHalf (svcEntry r1) u).bind fun entry v =>
        enterAt (entry.setWidth 20)
          ((((v.setPsw (Psw.ofImage newPsw)).setReg 13#4 (t.effAddr rx &&& 0xFFFFFF#32)).setReg 14#4
            t.psw.image).setReg 15#4 (pcImage (nextAddr t.pc rx.length)))) s

end Sys2Proof.Machine
end

