-- ==== Sys2Proof/Machine/Dispatch.lean ====
section
/-! DEFINITION. The meaning of every instruction, one arm each. -/

namespace Sys2Proof.Machine

def exec (i : Instr) (s : State) : Host.Outcome State Fault Refusal :=
  match i with
  | .jalr r1 r2 => Sys2Proof.Machine.execJalr r1 r2 s
  | .jtr mask r2 => Sys2Proof.Machine.execJtr mask r2 s
  | .jfr mask r2 => Sys2Proof.Machine.execJfr mask r2 s
  | .nr r1 r2 => Sys2Proof.Machine.execNr r1 r2 s
  | .clr r1 r2 => Sys2Proof.Machine.execClr r1 r2 s
  | .or r1 r2 => Sys2Proof.Machine.execOr r1 r2 s
  | .xr r1 r2 => Sys2Proof.Machine.execXr r1 r2 s
  | .lr r1 r2 => Sys2Proof.Machine.execLr r1 r2 s
  | .cr r1 r2 => Sys2Proof.Machine.execCr r1 r2 s
  | .ar r1 r2 => Sys2Proof.Machine.execAr r1 r2 s
  | .sr r1 r2 => Sys2Proof.Machine.execSr r1 r2 s
  | .mhr r1 r2 => Sys2Proof.Machine.execMhr r1 r2 s
  | .dhr r1 r2 => Sys2Proof.Machine.execDhr r1 r2 s
  | .rma1 r1 r2 => Sys2Proof.Machine.execRma1 r1 r2 s
  | .rma2 r1 r2 => Sys2Proof.Machine.execRma2 r1 r2 s
  | .srls r1 n => Sys2Proof.Machine.execSrls r1 n s
  | .slls r1 n => Sys2Proof.Machine.execSlls r1 n s
  | .lhr r1 r2 => Sys2Proof.Machine.execLhr r1 r2 s
  | .sbod r1 r2 => Sys2Proof.Machine.execSbod r1 r2 s
  | .xmit r1 r2 => Sys2Proof.Machine.execXmit r1 r2 s
  | .spm r1 r2 => Sys2Proof.Machine.execSpm r1 r2 s
  | .gchar r1 r2 => Sys2Proof.Machine.execGchar r1 r2 s
  | .lpswr r1 r2 => Sys2Proof.Machine.execLpswr r1 r2 s
  | .mr r1 r2 => Sys2Proof.Machine.execMr r1 r2 s
  | .dr r1 r2 => Sys2Proof.Machine.execDr r1 r2 s
  | .jtbs mask n => Sys2Proof.Machine.execJtbs mask n s
  | .jtfs mask n => Sys2Proof.Machine.execJtfs mask n s
  | .jfbs mask n => Sys2Proof.Machine.execJfbs mask n s
  | .jffs mask n => Sys2Proof.Machine.execJffs mask n s
  | .lis r1 n => Sys2Proof.Machine.execLis r1 n s
  | .lcs r1 n => Sys2Proof.Machine.execLcs r1 n s
  | .ais r1 n => Sys2Proof.Machine.execAis r1 n s
  | .sis r1 n => Sys2Proof.Machine.execSis r1 n s
  | .jffo r1 n => Sys2Proof.Machine.execJffo r1 n s
  | .jffoh r1 n => Sys2Proof.Machine.execJffoh r1 n s
  | .exhr r1 r2 => Sys2Proof.Machine.execExhr r1 r2 s
  | .scan r1 r2 => Sys2Proof.Machine.execScan r1 r2 s
  | .align r1 r2 => Sys2Proof.Machine.execAlign r1 r2 s
  | .cksum r1 r2 => Sys2Proof.Machine.execCksum r1 r2 s
  | .gci r1 r2 => Sys2Proof.Machine.execGci r1 r2 s
  | .wci r1 r2 => Sys2Proof.Machine.execWci r1 r2 s
  | .cbct r1 r2 => Sys2Proof.Machine.execCbct r1 r2 s
  | .rtd1 r1 r2 => Sys2Proof.Machine.execRtd1 r1 r2 s
  | .rtd2 r1 r2 => Sys2Proof.Machine.execRtd2 r1 r2 s
  | .arand r1 r2 => Sys2Proof.Machine.execArand r1 r2 s
  | .copy r1 r2 => Sys2Proof.Machine.execCopy r1 r2 s
  | .sth r1 rx => Sys2Proof.Machine.execSth r1 rx s
  | .jal r1 rx => Sys2Proof.Machine.execJal r1 rx s
  | .jt mask rx => Sys2Proof.Machine.execJt mask rx s
  | .jf mask rx => Sys2Proof.Machine.execJf mask rx s
  | .nh r1 rx => Sys2Proof.Machine.execNh r1 rx s
  | .clh r1 rx => Sys2Proof.Machine.execClh r1 rx s
  | .oh r1 rx => Sys2Proof.Machine.execOh r1 rx s
  | .xh r1 rx => Sys2Proof.Machine.execXh r1 rx s
  | .lh r1 rx => Sys2Proof.Machine.execLh r1 rx s
  | .ch r1 rx => Sys2Proof.Machine.execCh r1 rx s
  | .ah r1 rx => Sys2Proof.Machine.execAh r1 rx s
  | .sh r1 rx => Sys2Proof.Machine.execSh r1 rx s
  | .mh r1 rx => Sys2Proof.Machine.execMh r1 rx s
  | .dh r1 rx => Sys2Proof.Machine.execDh r1 rx s
  | .st r1 rx => Sys2Proof.Machine.execSt r1 rx s
  | .am r1 rx => Sys2Proof.Machine.execAm r1 rx s
  | .n r1 rx => Sys2Proof.Machine.execN r1 rx s
  | .cl r1 rx => Sys2Proof.Machine.execCl r1 rx s
  | .o r1 rx => Sys2Proof.Machine.execO r1 rx s
  | .x r1 rx => Sys2Proof.Machine.execX r1 rx s
  | .l r1 rx => Sys2Proof.Machine.execL r1 rx s
  | .c r1 rx => Sys2Proof.Machine.execC r1 rx s
  | .a r1 rx => Sys2Proof.Machine.execA r1 rx s
  | .s r1 rx => Sys2Proof.Machine.execS r1 rx s
  | .m r1 rx => Sys2Proof.Machine.execM r1 rx s
  | .d r1 rx => Sys2Proof.Machine.execD r1 rx s
  | .ahm r1 rx => Sys2Proof.Machine.execAhm r1 rx s
  | .lhl r1 rx => Sys2Proof.Machine.execLhl r1 rx s
  | .tbt r1 rx => Sys2Proof.Machine.execTbt r1 rx s
  | .sbt r1 rx => Sys2Proof.Machine.execSbt r1 rx s
  | .rbt r1 rx => Sys2Proof.Machine.execRbt r1 rx s
  | .cbt r1 rx => Sys2Proof.Machine.execCbt r1 rx s
  | .srhls r1 n => Sys2Proof.Machine.execSrhls r1 n s
  | .slhls r1 n => Sys2Proof.Machine.execSlhls r1 n s
  | .stbr r1 r2 => Sys2Proof.Machine.execStbr r1 r2 s
  | .lbr r1 r2 => Sys2Proof.Machine.execLbr r1 r2 s
  | .exbr r1 r2 => Sys2Proof.Machine.execExbr r1 r2 s
  | .epsr r1 r2 => Sys2Proof.Machine.execEpsr r1 r2 s
  | .cio r1 r2 => Sys2Proof.Machine.execCio r1 r2 s
  | .wdr r1 r2 => Sys2Proof.Machine.execWdr r1 r2 s
  | .rdr r1 r2 => Sys2Proof.Machine.execRdr r1 r2 s
  | .ssr r1 r2 => Sys2Proof.Machine.execSsr r1 r2 s
  | .ocr r1 r2 => Sys2Proof.Machine.execOcr r1 r2 s
  | .lpsw r1 rx => Sys2Proof.Machine.execLpsw r1 rx s
  | .thi r1 x2 i2 => Sys2Proof.Machine.execThi r1 x2 i2 s
  | .nhi r1 x2 i2 => Sys2Proof.Machine.execNhi r1 x2 i2 s
  | .clhi r1 x2 i2 => Sys2Proof.Machine.execClhi r1 x2 i2 s
  | .ohi r1 x2 i2 => Sys2Proof.Machine.execOhi r1 x2 i2 s
  | .xhi r1 x2 i2 => Sys2Proof.Machine.execXhi r1 x2 i2 s
  | .lhi r1 x2 i2 => Sys2Proof.Machine.execLhi r1 x2 i2 s
  | .chi r1 x2 i2 => Sys2Proof.Machine.execChi r1 x2 i2 s
  | .ahi r1 x2 i2 => Sys2Proof.Machine.execAhi r1 x2 i2 s
  | .shi r1 x2 i2 => Sys2Proof.Machine.execShi r1 x2 i2 s
  | .srhl r1 rx => Sys2Proof.Machine.execSrhl r1 rx s
  | .slhl r1 rx => Sys2Proof.Machine.execSlhl r1 rx s
  | .stm r1 rx => Sys2Proof.Machine.execStm r1 rx s
  | .lm r1 rx => Sys2Proof.Machine.execLm r1 rx s
  | .stb r1 rx => Sys2Proof.Machine.execStb r1 rx s
  | .lb r1 rx => Sys2Proof.Machine.execLb r1 rx s
  | .clb r1 rx => Sys2Proof.Machine.execClb r1 rx s
  | .upsw r1 rx => Sys2Proof.Machine.execUpsw r1 rx s
  | .wd r1 rx => Sys2Proof.Machine.execWd r1 rx s
  | .oc r1 rx => Sys2Proof.Machine.execOc r1 rx s
  | .ts r1 rx => Sys2Proof.Machine.execTs r1 rx s
  | .svc r1 rx => Sys2Proof.Machine.execSvc r1 rx s
  | .la r1 rx => Sys2Proof.Machine.execLa r1 rx s
  | .rrl r1 rx => Sys2Proof.Machine.execRrl r1 rx s
  | .rll r1 rx => Sys2Proof.Machine.execRll r1 rx s
  | .srl r1 rx => Sys2Proof.Machine.execSrl r1 rx s
  | .sll r1 rx => Sys2Proof.Machine.execSll r1 rx s
  | .sra r1 rx => Sys2Proof.Machine.execSra r1 rx s
  | .ti r1 x2 i2 => Sys2Proof.Machine.execTi r1 x2 i2 s
  | .ni r1 x2 i2 => Sys2Proof.Machine.execNi r1 x2 i2 s
  | .cli r1 x2 i2 => Sys2Proof.Machine.execCli r1 x2 i2 s
  | .oi r1 x2 i2 => Sys2Proof.Machine.execOi r1 x2 i2 s
  | .xi r1 x2 i2 => Sys2Proof.Machine.execXi r1 x2 i2 s
  | .li r1 x2 i2 => Sys2Proof.Machine.execLi r1 x2 i2 s
  | .ci r1 x2 i2 => Sys2Proof.Machine.execCi r1 x2 i2 s
  | .ai r1 x2 i2 => Sys2Proof.Machine.execAi r1 x2 i2 s
  | .si r1 x2 i2 => Sys2Proof.Machine.execSi r1 x2 i2 s
  | .nop rx => Sys2Proof.Machine.execNop rx s
  | .nopr r2 => Sys2Proof.Machine.execNopr r2 s
  | .j rx => Sys2Proof.Machine.execJ rx s
  | .jr r2 => Sys2Proof.Machine.execJr r2 s
  | .jbs n => Sys2Proof.Machine.execJbs n s
  | .jfs n => Sys2Proof.Machine.execJfs n s
  | .je rx => Sys2Proof.Machine.execJe rx s
  | .jer r2 => Sys2Proof.Machine.execJer r2 s
  | .jebs n => Sys2Proof.Machine.execJebs n s
  | .jefs n => Sys2Proof.Machine.execJefs n s
  | .jn rx => Sys2Proof.Machine.execJn rx s
  | .jnr r2 => Sys2Proof.Machine.execJnr r2 s
  | .jnbs n => Sys2Proof.Machine.execJnbs n s
  | .jnfs n => Sys2Proof.Machine.execJnfs n s
  | .jg rx => Sys2Proof.Machine.execJg rx s
  | .jgr r2 => Sys2Proof.Machine.execJgr r2 s
  | .jgbs n => Sys2Proof.Machine.execJgbs n s
  | .jgfs n => Sys2Proof.Machine.execJgfs n s
  | .jge rx => Sys2Proof.Machine.execJge rx s
  | .jger r2 => Sys2Proof.Machine.execJger r2 s
  | .jgebs n => Sys2Proof.Machine.execJgebs n s
  | .jgefs n => Sys2Proof.Machine.execJgefs n s
  | .jle rx => Sys2Proof.Machine.execJle rx s
  | .jler r2 => Sys2Proof.Machine.execJler r2 s
  | .jlebs n => Sys2Proof.Machine.execJlebs n s
  | .jlefs n => Sys2Proof.Machine.execJlefs n s
  | .jl rx => Sys2Proof.Machine.execJl rx s
  | .jlr r2 => Sys2Proof.Machine.execJlr r2 s
  | .jlbs n => Sys2Proof.Machine.execJlbs n s
  | .jlfs n => Sys2Proof.Machine.execJlfs n s
  | .jc rx => Sys2Proof.Machine.execJc rx s
  | .jcr r2 => Sys2Proof.Machine.execJcr r2 s
  | .jcbs n => Sys2Proof.Machine.execJcbs n s
  | .jcfs n => Sys2Proof.Machine.execJcfs n s
  | .jnc rx => Sys2Proof.Machine.execJnc rx s
  | .jncr r2 => Sys2Proof.Machine.execJncr r2 s
  | .jncbs n => Sys2Proof.Machine.execJncbs n s
  | .jncfs n => Sys2Proof.Machine.execJncfs n s

end Sys2Proof.Machine
end

