-- ==== Sys2Proof/WellFormed.lean ====
section
/-! DEFINITION. Which instruction terms stand for words of their own. Every field has the exact width
of its encoding, so the only check is on masks: a jump on condition whose mask has an extended
mnemonic (`30_encoding.md` R133, `42_jump.md` R269) is written as that mnemonic (log 43). -/

namespace Sys2Proof

/-- Masks that have an extended mnemonic in the RX and RR forms: 0, 1, 2, 3, 8 (R133). -/
def namedMask (m : Nib) : Bool :=
  m == 0#4 || m == 1#4 || m == 2#4 || m == 3#4 || m == 8#4

/-- Masks that have an extended mnemonic in the short jumps on true: 1, 2, 3, 8 (R133 has no short
form of NOP). -/
def namedShortTrueMask (m : Nib) : Bool :=
  m == 1#4 || m == 2#4 || m == 3#4 || m == 8#4

/-- The instruction is the one its own words decode to. -/
def Instr.wellFormed : Instr → Bool
  | .jt mask _ => !namedMask mask
  | .jf mask _ => !namedMask mask
  | .jtr mask _ => !namedMask mask
  | .jfr mask _ => !namedMask mask
  | .jtbs mask _ => !namedShortTrueMask mask
  | .jtfs mask _ => !namedShortTrueMask mask
  | .jfbs mask _ => !namedMask mask
  | .jffs mask _ => !namedMask mask
  | .jalr _ _ => true
  | .nr _ _ => true
  | .clr _ _ => true
  | .or _ _ => true
  | .xr _ _ => true
  | .lr _ _ => true
  | .cr _ _ => true
  | .ar _ _ => true
  | .sr _ _ => true
  | .mhr _ _ => true
  | .dhr _ _ => true
  | .rma1 _ _ => true
  | .rma2 _ _ => true
  | .srls _ _ => true
  | .slls _ _ => true
  | .lhr _ _ => true
  | .sbod _ _ => true
  | .xmit _ _ => true
  | .spm _ _ => true
  | .gchar _ _ => true
  | .lpswr _ _ => true
  | .mr _ _ => true
  | .dr _ _ => true
  | .lis _ _ => true
  | .lcs _ _ => true
  | .ais _ _ => true
  | .sis _ _ => true
  | .jffo _ _ => true
  | .jffoh _ _ => true
  | .exhr _ _ => true
  | .scan _ _ => true
  | .align _ _ => true
  | .cksum _ _ => true
  | .gci _ _ => true
  | .wci _ _ => true
  | .cbct _ _ => true
  | .rtd1 _ _ => true
  | .rtd2 _ _ => true
  | .arand _ _ => true
  | .copy _ _ => true
  | .sth _ _ => true
  | .jal _ _ => true
  | .nh _ _ => true
  | .clh _ _ => true
  | .oh _ _ => true
  | .xh _ _ => true
  | .lh _ _ => true
  | .ch _ _ => true
  | .ah _ _ => true
  | .sh _ _ => true
  | .mh _ _ => true
  | .dh _ _ => true
  | .st _ _ => true
  | .am _ _ => true
  | .n _ _ => true
  | .cl _ _ => true
  | .o _ _ => true
  | .x _ _ => true
  | .l _ _ => true
  | .c _ _ => true
  | .a _ _ => true
  | .s _ _ => true
  | .m _ _ => true
  | .d _ _ => true
  | .ahm _ _ => true
  | .lhl _ _ => true
  | .tbt _ _ => true
  | .sbt _ _ => true
  | .rbt _ _ => true
  | .cbt _ _ => true
  | .srhls _ _ => true
  | .slhls _ _ => true
  | .stbr _ _ => true
  | .lbr _ _ => true
  | .exbr _ _ => true
  | .epsr _ _ => true
  | .cio _ _ => true
  | .wdr _ _ => true
  | .rdr _ _ => true
  | .ssr _ _ => true
  | .ocr _ _ => true
  | .lpsw _ _ => true
  | .thi _ _ _ => true
  | .nhi _ _ _ => true
  | .clhi _ _ _ => true
  | .ohi _ _ _ => true
  | .xhi _ _ _ => true
  | .lhi _ _ _ => true
  | .chi _ _ _ => true
  | .ahi _ _ _ => true
  | .shi _ _ _ => true
  | .srhl _ _ => true
  | .slhl _ _ => true
  | .stm _ _ => true
  | .lm _ _ => true
  | .stb _ _ => true
  | .lb _ _ => true
  | .clb _ _ => true
  | .upsw _ _ => true
  | .wd _ _ => true
  | .oc _ _ => true
  | .ts _ _ => true
  | .svc _ _ => true
  | .la _ _ => true
  | .rrl _ _ => true
  | .rll _ _ => true
  | .srl _ _ => true
  | .sll _ _ => true
  | .sra _ _ => true
  | .ti _ _ _ => true
  | .ni _ _ _ => true
  | .cli _ _ _ => true
  | .oi _ _ _ => true
  | .xi _ _ _ => true
  | .li _ _ _ => true
  | .ci _ _ _ => true
  | .ai _ _ _ => true
  | .si _ _ _ => true
  | .nop _ => true
  | .nopr _ => true
  | .j _ => true
  | .jr _ => true
  | .jbs _ => true
  | .jfs _ => true
  | .je _ => true
  | .jer _ => true
  | .jebs _ => true
  | .jefs _ => true
  | .jn _ => true
  | .jnr _ => true
  | .jnbs _ => true
  | .jnfs _ => true
  | .jg _ => true
  | .jgr _ => true
  | .jgbs _ => true
  | .jgfs _ => true
  | .jge _ => true
  | .jger _ => true
  | .jgebs _ => true
  | .jgefs _ => true
  | .jle _ => true
  | .jler _ => true
  | .jlebs _ => true
  | .jlefs _ => true
  | .jl _ => true
  | .jlr _ => true
  | .jlbs _ => true
  | .jlfs _ => true
  | .jc _ => true
  | .jcr _ => true
  | .jcbs _ => true
  | .jcfs _ => true
  | .jnc _ => true
  | .jncr _ => true
  | .jncbs _ => true
  | .jncfs _ => true

end Sys2Proof
end

