-- ==== Sys2Proof/Decode.lean ====
section
/-! DEFINITION. The decoder and the encoder (`30_encoding.md` R110 to R133). An instruction is a list
of one, two or three halfwords in memory order (R110); the decoder is total and says what an
encoding that is no instruction is. -/

namespace Sys2Proof

/-- What a list of halfwords is. -/
inductive Decoded where
  /-- An instruction. -/
  | instr (i : Instr)
  /-- An unassigned op code (R127): the illegal instruction interrupt. -/
  | illegal
  /-- An RX3 form with bits 18:19 not 00 (R120, D12): a model refuses it. -/
  | rx3Reserved
  /-- The instruction is longer than the list: another halfword has to be fetched (R123). -/
  | short
  deriving DecidableEq, Repr

/-- The format class of an op code (R126). -/
inductive OpClass where
  | rr | sf | rx | ri1 | ri2 | illegal
  deriving DecidableEq, Repr

/-- Bits 0:7 of the first halfword, OP (R110). -/
def opField (h0 : Half) : Byte := h0.extractLsb' 8 8

/-- Bits 8:11 of the first halfword, R1 or the mask M (R110). -/
def r1Field (h0 : Half) : Reg := h0.extractLsb' 4 4

/-- Bits 12:15 of the first halfword, R2, N or X2 (R110). -/
def r2Field (h0 : Half) : Reg := h0.extractLsb' 0 4

/-- The format class of every op code (the table of R126; every other op code is illegal, R127). -/
def opClass (op : Byte) : OpClass :=
  match op with
  | 0x01#8 | 0x02#8 | 0x03#8 | 0x04#8 | 0x05#8 | 0x06#8 | 0x07#8 | 0x08#8 | 0x09#8 | 0x0A#8
  | 0x0B#8 | 0x0C#8 | 0x0D#8 | 0x0E#8 | 0x0F#8 | 0x12#8 | 0x13#8 | 0x14#8 | 0x15#8 | 0x16#8
  | 0x18#8 | 0x1C#8 | 0x1D#8 | 0x34#8 | 0x35#8 | 0x36#8 | 0x37#8 | 0x38#8 | 0x39#8 | 0x3A#8
  | 0x3B#8 | 0x3C#8 | 0x3E#8 | 0x3F#8 | 0x92#8 | 0x93#8 | 0x94#8 | 0x95#8 | 0x99#8 | 0x9A#8
  | 0x9B#8 | 0x9D#8 | 0x9E#8 => .rr
  | 0x10#8 | 0x11#8 | 0x20#8 | 0x21#8 | 0x22#8 | 0x23#8 | 0x24#8 | 0x25#8 | 0x26#8 | 0x27#8
  | 0x31#8 | 0x33#8 | 0x90#8 | 0x91#8 => .sf
  | 0x40#8 | 0x41#8 | 0x42#8 | 0x43#8 | 0x44#8 | 0x45#8 | 0x46#8 | 0x47#8 | 0x48#8 | 0x49#8
  | 0x4A#8 | 0x4B#8 | 0x4C#8 | 0x4D#8 | 0x50#8 | 0x51#8 | 0x54#8 | 0x55#8 | 0x56#8 | 0x57#8
  | 0x58#8 | 0x59#8 | 0x5A#8 | 0x5B#8 | 0x5C#8 | 0x5D#8 | 0x61#8 | 0x73#8 | 0x74#8 | 0x75#8
  | 0x76#8 | 0x77#8 | 0xC2#8 | 0xCC#8 | 0xCD#8 | 0xD0#8 | 0xD1#8 | 0xD2#8 | 0xD3#8 | 0xD4#8
  | 0xD5#8 | 0xDA#8 | 0xDE#8 | 0xE0#8 | 0xE1#8 | 0xE6#8 | 0xEA#8 | 0xEB#8 | 0xEC#8 | 0xED#8
  | 0xEE#8 => .rx
  | 0xC3#8 | 0xC4#8 | 0xC5#8 | 0xC6#8 | 0xC7#8 | 0xC8#8 | 0xC9#8 | 0xCA#8 | 0xCB#8 => .ri1
  | 0xF3#8 | 0xF4#8 | 0xF5#8 | 0xF6#8 | 0xF7#8 | 0xF8#8 | 0xF9#8 | 0xFA#8 | 0xFB#8 => .ri2
  | _ => .illegal

/-- JT under its extended mnemonic where the mask has one (R133, R269). -/
def nameJt (mask : Nib) (rx : RxAddr) : Instr :=
  if mask == 0#4 then .nop rx else
  if mask == 1#4 then .jl rx else
  if mask == 2#4 then .jg rx else
  if mask == 3#4 then .jn rx else
  if mask == 8#4 then .jc rx else
  .jt mask rx

/-- JF under its extended mnemonic where the mask has one (R133, R269). -/
def nameJf (mask : Nib) (rx : RxAddr) : Instr :=
  if mask == 0#4 then .j rx else
  if mask == 1#4 then .jge rx else
  if mask == 2#4 then .jle rx else
  if mask == 3#4 then .je rx else
  if mask == 8#4 then .jnc rx else
  .jf mask rx

/-- JTR under its extended mnemonic where the mask has one (R133, R269). -/
def nameJtr (mask : Nib) (r2 : Reg) : Instr :=
  if mask == 0#4 then .nopr r2 else
  if mask == 1#4 then .jlr r2 else
  if mask == 2#4 then .jgr r2 else
  if mask == 3#4 then .jnr r2 else
  if mask == 8#4 then .jcr r2 else
  .jtr mask r2

/-- JFR under its extended mnemonic where the mask has one (R133, R269). -/
def nameJfr (mask : Nib) (r2 : Reg) : Instr :=
  if mask == 0#4 then .jr r2 else
  if mask == 1#4 then .jger r2 else
  if mask == 2#4 then .jler r2 else
  if mask == 3#4 then .jer r2 else
  if mask == 8#4 then .jncr r2 else
  .jfr mask r2

/-- JTBS under its extended mnemonic where the mask has one (R133, R269). -/
def nameJtbs (mask : Nib) (n : Nib) : Instr :=
  if mask == 1#4 then .jlbs n else
  if mask == 2#4 then .jgbs n else
  if mask == 3#4 then .jnbs n else
  if mask == 8#4 then .jcbs n else
  .jtbs mask n

/-- JTFS under its extended mnemonic where the mask has one (R133, R269). -/
def nameJtfs (mask : Nib) (n : Nib) : Instr :=
  if mask == 1#4 then .jlfs n else
  if mask == 2#4 then .jgfs n else
  if mask == 3#4 then .jnfs n else
  if mask == 8#4 then .jcfs n else
  .jtfs mask n

/-- JFBS under its extended mnemonic where the mask has one (R133, R269). -/
def nameJfbs (mask : Nib) (n : Nib) : Instr :=
  if mask == 0#4 then .jbs n else
  if mask == 1#4 then .jgebs n else
  if mask == 2#4 then .jlebs n else
  if mask == 3#4 then .jebs n else
  if mask == 8#4 then .jncbs n else
  .jfbs mask n

/-- JFFS under its extended mnemonic where the mask has one (R133, R269). -/
def nameJffs (mask : Nib) (n : Nib) : Instr :=
  if mask == 0#4 then .jfs n else
  if mask == 1#4 then .jgefs n else
  if mask == 2#4 then .jlefs n else
  if mask == 3#4 then .jefs n else
  if mask == 8#4 then .jncfs n else
  .jffs mask n

/-- The RR instructions by op code (R140). -/
def decodeRr (op : Byte) (r1 r2 : Reg) : Decoded :=
  match op with
  | 0x01#8 => .instr (.jalr r1 r2)
  | 0x02#8 => .instr (nameJtr r1 r2)
  | 0x03#8 => .instr (nameJfr r1 r2)
  | 0x04#8 => .instr (.nr r1 r2)
  | 0x05#8 => .instr (.clr r1 r2)
  | 0x06#8 => .instr (.or r1 r2)
  | 0x07#8 => .instr (.xr r1 r2)
  | 0x08#8 => .instr (.lr r1 r2)
  | 0x09#8 => .instr (.cr r1 r2)
  | 0x0A#8 => .instr (.ar r1 r2)
  | 0x0B#8 => .instr (.sr r1 r2)
  | 0x0C#8 => .instr (.mhr r1 r2)
  | 0x0D#8 => .instr (.dhr r1 r2)
  | 0x0E#8 => .instr (.rma1 r1 r2)
  | 0x0F#8 => .instr (.rma2 r1 r2)
  | 0x12#8 => .instr (.lhr r1 r2)
  | 0x13#8 => .instr (.sbod r1 r2)
  | 0x14#8 => .instr (.xmit r1 r2)
  | 0x15#8 => .instr (.spm r1 r2)
  | 0x16#8 => .instr (.gchar r1 r2)
  | 0x18#8 => .instr (.lpswr r1 r2)
  | 0x1C#8 => .instr (.mr r1 r2)
  | 0x1D#8 => .instr (.dr r1 r2)
  | 0x34#8 => .instr (.exhr r1 r2)
  | 0x35#8 => .instr (.scan r1 r2)
  | 0x36#8 => .instr (.align r1 r2)
  | 0x37#8 => .instr (.cksum r1 r2)
  | 0x38#8 => .instr (.gci r1 r2)
  | 0x39#8 => .instr (.wci r1 r2)
  | 0x3A#8 => .instr (.cbct r1 r2)
  | 0x3B#8 => .instr (.rtd1 r1 r2)
  | 0x3C#8 => .instr (.rtd2 r1 r2)
  | 0x3E#8 => .instr (.arand r1 r2)
  | 0x3F#8 => .instr (.copy r1 r2)
  | 0x92#8 => .instr (.stbr r1 r2)
  | 0x93#8 => .instr (.lbr r1 r2)
  | 0x94#8 => .instr (.exbr r1 r2)
  | 0x95#8 => .instr (.epsr r1 r2)
  | 0x99#8 => .instr (.cio r1 r2)
  | 0x9A#8 => .instr (.wdr r1 r2)
  | 0x9B#8 => .instr (.rdr r1 r2)
  | 0x9D#8 => .instr (.ssr r1 r2)
  | 0x9E#8 => .instr (.ocr r1 r2)
  | _ => .illegal

/-- The SF instructions by op code (R140). -/
def decodeSf (op : Byte) (r1 : Reg) (n : Nib) : Decoded :=
  match op with
  | 0x10#8 => .instr (.srls r1 n)
  | 0x11#8 => .instr (.slls r1 n)
  | 0x20#8 => .instr (nameJtbs r1 n)
  | 0x21#8 => .instr (nameJtfs r1 n)
  | 0x22#8 => .instr (nameJfbs r1 n)
  | 0x23#8 => .instr (nameJffs r1 n)
  | 0x24#8 => .instr (.lis r1 n)
  | 0x25#8 => .instr (.lcs r1 n)
  | 0x26#8 => .instr (.ais r1 n)
  | 0x27#8 => .instr (.sis r1 n)
  | 0x31#8 => .instr (.jffo r1 n)
  | 0x33#8 => .instr (.jffoh r1 n)
  | 0x90#8 => .instr (.srhls r1 n)
  | 0x91#8 => .instr (.slhls r1 n)
  | _ => .illegal

/-- The RX instructions by op code (R140). -/
def decodeRx (op : Byte) (r1 : Reg) (rx : RxAddr) : Decoded :=
  match op with
  | 0x40#8 => .instr (.sth r1 rx)
  | 0x41#8 => .instr (.jal r1 rx)
  | 0x42#8 => .instr (nameJt r1 rx)
  | 0x43#8 => .instr (nameJf r1 rx)
  | 0x44#8 => .instr (.nh r1 rx)
  | 0x45#8 => .instr (.clh r1 rx)
  | 0x46#8 => .instr (.oh r1 rx)
  | 0x47#8 => .instr (.xh r1 rx)
  | 0x48#8 => .instr (.lh r1 rx)
  | 0x49#8 => .instr (.ch r1 rx)
  | 0x4A#8 => .instr (.ah r1 rx)
  | 0x4B#8 => .instr (.sh r1 rx)
  | 0x4C#8 => .instr (.mh r1 rx)
  | 0x4D#8 => .instr (.dh r1 rx)
  | 0x50#8 => .instr (.st r1 rx)
  | 0x51#8 => .instr (.am r1 rx)
  | 0x54#8 => .instr (.n r1 rx)
  | 0x55#8 => .instr (.cl r1 rx)
  | 0x56#8 => .instr (.o r1 rx)
  | 0x57#8 => .instr (.x r1 rx)
  | 0x58#8 => .instr (.l r1 rx)
  | 0x59#8 => .instr (.c r1 rx)
  | 0x5A#8 => .instr (.a r1 rx)
  | 0x5B#8 => .instr (.s r1 rx)
  | 0x5C#8 => .instr (.m r1 rx)
  | 0x5D#8 => .instr (.d r1 rx)
  | 0x61#8 => .instr (.ahm r1 rx)
  | 0x73#8 => .instr (.lhl r1 rx)
  | 0x74#8 => .instr (.tbt r1 rx)
  | 0x75#8 => .instr (.sbt r1 rx)
  | 0x76#8 => .instr (.rbt r1 rx)
  | 0x77#8 => .instr (.cbt r1 rx)
  | 0xC2#8 => .instr (.lpsw r1 rx)
  | 0xCC#8 => .instr (.srhl r1 rx)
  | 0xCD#8 => .instr (.slhl r1 rx)
  | 0xD0#8 => .instr (.stm r1 rx)
  | 0xD1#8 => .instr (.lm r1 rx)
  | 0xD2#8 => .instr (.stb r1 rx)
  | 0xD3#8 => .instr (.lb r1 rx)
  | 0xD4#8 => .instr (.clb r1 rx)
  | 0xD5#8 => .instr (.upsw r1 rx)
  | 0xDA#8 => .instr (.wd r1 rx)
  | 0xDE#8 => .instr (.oc r1 rx)
  | 0xE0#8 => .instr (.ts r1 rx)
  | 0xE1#8 => .instr (.svc r1 rx)
  | 0xE6#8 => .instr (.la r1 rx)
  | 0xEA#8 => .instr (.rrl r1 rx)
  | 0xEB#8 => .instr (.rll r1 rx)
  | 0xEC#8 => .instr (.srl r1 rx)
  | 0xED#8 => .instr (.sll r1 rx)
  | 0xEE#8 => .instr (.sra r1 rx)
  | _ => .illegal

/-- The RI1 instructions by op code (R140). -/
def decodeRi1 (op : Byte) (r1 x2 : Reg) (i2 : Half) : Decoded :=
  match op with
  | 0xC3#8 => .instr (.thi r1 x2 i2)
  | 0xC4#8 => .instr (.nhi r1 x2 i2)
  | 0xC5#8 => .instr (.clhi r1 x2 i2)
  | 0xC6#8 => .instr (.ohi r1 x2 i2)
  | 0xC7#8 => .instr (.xhi r1 x2 i2)
  | 0xC8#8 => .instr (.lhi r1 x2 i2)
  | 0xC9#8 => .instr (.chi r1 x2 i2)
  | 0xCA#8 => .instr (.ahi r1 x2 i2)
  | 0xCB#8 => .instr (.shi r1 x2 i2)
  | _ => .illegal

/-- The RI2 instructions by op code (R140). -/
def decodeRi2 (op : Byte) (r1 x2 : Reg) (i2 : Word) : Decoded :=
  match op with
  | 0xF3#8 => .instr (.ti r1 x2 i2)
  | 0xF4#8 => .instr (.ni r1 x2 i2)
  | 0xF5#8 => .instr (.cli r1 x2 i2)
  | 0xF6#8 => .instr (.oi r1 x2 i2)
  | 0xF7#8 => .instr (.xi r1 x2 i2)
  | 0xF8#8 => .instr (.li r1 x2 i2)
  | 0xF9#8 => .instr (.ci r1 x2 i2)
  | 0xFA#8 => .instr (.ai r1 x2 i2)
  | 0xFB#8 => .instr (.si r1 x2 i2)
  | _ => .illegal

/-- The RX class: the format is chosen by bits 16:17 alone (R120). -/
def decodeRxWords (h0 h1 : Half) (rest : List Half) : Decoded :=
  if h1.getMsbD 0 then
    decodeRx (opField h0) (r1Field h0) (.rx2 (r2Field h0) (h1.extractLsb' 0 15))
  else if h1.getMsbD 1 then
    match rest with
    | [] => .short
    | h2 :: _ =>
      if h1.extractLsb' 12 2 == 0#2 then
        decodeRx (opField h0) (r1Field h0)
          (.rx3 (r2Field h0) (h1.extractLsb' 8 4) (h1.extractLsb' 0 8 ++ h2))
      else .rx3Reserved
  else decodeRx (opField h0) (r1Field h0) (.rx1 (r2Field h0) (h1.extractLsb' 0 14))

/-- The decoder (R123, R126): what the halfwords at an instruction address are. Halfwords past the
instruction's length play no part. -/
def decode : List Half → Decoded
  | [] => .short
  | h0 :: rest =>
    match opClass (opField h0) with
    | .illegal => .illegal
    | .rr => decodeRr (opField h0) (r1Field h0) (r2Field h0)
    | .sf => decodeSf (opField h0) (r1Field h0) (r2Field h0)
    | .rx =>
      match rest with
      | [] => .short
      | h1 :: rest' => decodeRxWords h0 h1 rest'
    | .ri1 =>
      match rest with
      | [] => .short
      | h1 :: _ => decodeRi1 (opField h0) (r1Field h0) (r2Field h0) h1
    | .ri2 =>
      match rest with
      | h1 :: h2 :: _ => decodeRi2 (opField h0) (r1Field h0) (r2Field h0) (h1 ++ h2)
      | _ => .short

/-- Bytes in memory order as halfwords, the byte at the lower address on the left (R64). -/
def halvesOfBytes : List Byte → List Half
  | b0 :: b1 :: rest => (b0 ++ b1) :: halvesOfBytes rest
  | _ => []

/-- Halfwords as bytes in memory order (R64). -/
def bytesOfHalves : List Half → List Byte
  | [] => []
  | h :: rest => h.extractLsb' 8 8 :: h.extractLsb' 0 8 :: bytesOfHalves rest

/-- The decoder on bytes. -/
def decodeBytes (bs : List Byte) : Decoded := decode (halvesOfBytes bs)

/-- The first halfword from its three fields (R110). -/
def firstHalf (op : Byte) (r1 r2 : Reg) : Half := op ++ r1 ++ r2

/-- The words of an RX instruction (R117 to R119). -/
def encodeRx (op : Byte) (r1 : Reg) : RxAddr → List Half
  | .rx1 x2 a2 => [firstHalf op r1 x2, 0#2 ++ a2]
  | .rx2 x2 d2 => [firstHalf op r1 x2, 1#1 ++ d2]
  | .rx3 x2 x2p a2 => [firstHalf op r1 x2, 4#4 ++ x2p ++ a2.extractLsb' 16 8, a2.extractLsb' 0 16]

/-- The words of an instruction, from the same tables (R111, R140). -/
def encode : Instr → List Half
  | .jalr r1 r2 => [firstHalf 0x01#8 r1 r2]
  | .jtr mask r2 => [firstHalf 0x02#8 mask r2]
  | .jfr mask r2 => [firstHalf 0x03#8 mask r2]
  | .nr r1 r2 => [firstHalf 0x04#8 r1 r2]
  | .clr r1 r2 => [firstHalf 0x05#8 r1 r2]
  | .or r1 r2 => [firstHalf 0x06#8 r1 r2]
  | .xr r1 r2 => [firstHalf 0x07#8 r1 r2]
  | .lr r1 r2 => [firstHalf 0x08#8 r1 r2]
  | .cr r1 r2 => [firstHalf 0x09#8 r1 r2]
  | .ar r1 r2 => [firstHalf 0x0A#8 r1 r2]
  | .sr r1 r2 => [firstHalf 0x0B#8 r1 r2]
  | .mhr r1 r2 => [firstHalf 0x0C#8 r1 r2]
  | .dhr r1 r2 => [firstHalf 0x0D#8 r1 r2]
  | .rma1 r1 r2 => [firstHalf 0x0E#8 r1 r2]
  | .rma2 r1 r2 => [firstHalf 0x0F#8 r1 r2]
  | .srls r1 n => [firstHalf 0x10#8 r1 n]
  | .slls r1 n => [firstHalf 0x11#8 r1 n]
  | .lhr r1 r2 => [firstHalf 0x12#8 r1 r2]
  | .sbod r1 r2 => [firstHalf 0x13#8 r1 r2]
  | .xmit r1 r2 => [firstHalf 0x14#8 r1 r2]
  | .spm r1 r2 => [firstHalf 0x15#8 r1 r2]
  | .gchar r1 r2 => [firstHalf 0x16#8 r1 r2]
  | .lpswr r1 r2 => [firstHalf 0x18#8 r1 r2]
  | .mr r1 r2 => [firstHalf 0x1C#8 r1 r2]
  | .dr r1 r2 => [firstHalf 0x1D#8 r1 r2]
  | .jtbs mask n => [firstHalf 0x20#8 mask n]
  | .jtfs mask n => [firstHalf 0x21#8 mask n]
  | .jfbs mask n => [firstHalf 0x22#8 mask n]
  | .jffs mask n => [firstHalf 0x23#8 mask n]
  | .lis r1 n => [firstHalf 0x24#8 r1 n]
  | .lcs r1 n => [firstHalf 0x25#8 r1 n]
  | .ais r1 n => [firstHalf 0x26#8 r1 n]
  | .sis r1 n => [firstHalf 0x27#8 r1 n]
  | .jffo r1 n => [firstHalf 0x31#8 r1 n]
  | .jffoh r1 n => [firstHalf 0x33#8 r1 n]
  | .exhr r1 r2 => [firstHalf 0x34#8 r1 r2]
  | .scan r1 r2 => [firstHalf 0x35#8 r1 r2]
  | .align r1 r2 => [firstHalf 0x36#8 r1 r2]
  | .cksum r1 r2 => [firstHalf 0x37#8 r1 r2]
  | .gci r1 r2 => [firstHalf 0x38#8 r1 r2]
  | .wci r1 r2 => [firstHalf 0x39#8 r1 r2]
  | .cbct r1 r2 => [firstHalf 0x3A#8 r1 r2]
  | .rtd1 r1 r2 => [firstHalf 0x3B#8 r1 r2]
  | .rtd2 r1 r2 => [firstHalf 0x3C#8 r1 r2]
  | .arand r1 r2 => [firstHalf 0x3E#8 r1 r2]
  | .copy r1 r2 => [firstHalf 0x3F#8 r1 r2]
  | .sth r1 rx => encodeRx 0x40#8 r1 rx
  | .jal r1 rx => encodeRx 0x41#8 r1 rx
  | .jt mask rx => encodeRx 0x42#8 mask rx
  | .jf mask rx => encodeRx 0x43#8 mask rx
  | .nh r1 rx => encodeRx 0x44#8 r1 rx
  | .clh r1 rx => encodeRx 0x45#8 r1 rx
  | .oh r1 rx => encodeRx 0x46#8 r1 rx
  | .xh r1 rx => encodeRx 0x47#8 r1 rx
  | .lh r1 rx => encodeRx 0x48#8 r1 rx
  | .ch r1 rx => encodeRx 0x49#8 r1 rx
  | .ah r1 rx => encodeRx 0x4A#8 r1 rx
  | .sh r1 rx => encodeRx 0x4B#8 r1 rx
  | .mh r1 rx => encodeRx 0x4C#8 r1 rx
  | .dh r1 rx => encodeRx 0x4D#8 r1 rx
  | .st r1 rx => encodeRx 0x50#8 r1 rx
  | .am r1 rx => encodeRx 0x51#8 r1 rx
  | .n r1 rx => encodeRx 0x54#8 r1 rx
  | .cl r1 rx => encodeRx 0x55#8 r1 rx
  | .o r1 rx => encodeRx 0x56#8 r1 rx
  | .x r1 rx => encodeRx 0x57#8 r1 rx
  | .l r1 rx => encodeRx 0x58#8 r1 rx
  | .c r1 rx => encodeRx 0x59#8 r1 rx
  | .a r1 rx => encodeRx 0x5A#8 r1 rx
  | .s r1 rx => encodeRx 0x5B#8 r1 rx
  | .m r1 rx => encodeRx 0x5C#8 r1 rx
  | .d r1 rx => encodeRx 0x5D#8 r1 rx
  | .ahm r1 rx => encodeRx 0x61#8 r1 rx
  | .lhl r1 rx => encodeRx 0x73#8 r1 rx
  | .tbt r1 rx => encodeRx 0x74#8 r1 rx
  | .sbt r1 rx => encodeRx 0x75#8 r1 rx
  | .rbt r1 rx => encodeRx 0x76#8 r1 rx
  | .cbt r1 rx => encodeRx 0x77#8 r1 rx
  | .srhls r1 n => [firstHalf 0x90#8 r1 n]
  | .slhls r1 n => [firstHalf 0x91#8 r1 n]
  | .stbr r1 r2 => [firstHalf 0x92#8 r1 r2]
  | .lbr r1 r2 => [firstHalf 0x93#8 r1 r2]
  | .exbr r1 r2 => [firstHalf 0x94#8 r1 r2]
  | .epsr r1 r2 => [firstHalf 0x95#8 r1 r2]
  | .cio r1 r2 => [firstHalf 0x99#8 r1 r2]
  | .wdr r1 r2 => [firstHalf 0x9A#8 r1 r2]
  | .rdr r1 r2 => [firstHalf 0x9B#8 r1 r2]
  | .ssr r1 r2 => [firstHalf 0x9D#8 r1 r2]
  | .ocr r1 r2 => [firstHalf 0x9E#8 r1 r2]
  | .lpsw r1 rx => encodeRx 0xC2#8 r1 rx
  | .thi r1 x2 i2 => [firstHalf 0xC3#8 r1 x2, i2]
  | .nhi r1 x2 i2 => [firstHalf 0xC4#8 r1 x2, i2]
  | .clhi r1 x2 i2 => [firstHalf 0xC5#8 r1 x2, i2]
  | .ohi r1 x2 i2 => [firstHalf 0xC6#8 r1 x2, i2]
  | .xhi r1 x2 i2 => [firstHalf 0xC7#8 r1 x2, i2]
  | .lhi r1 x2 i2 => [firstHalf 0xC8#8 r1 x2, i2]
  | .chi r1 x2 i2 => [firstHalf 0xC9#8 r1 x2, i2]
  | .ahi r1 x2 i2 => [firstHalf 0xCA#8 r1 x2, i2]
  | .shi r1 x2 i2 => [firstHalf 0xCB#8 r1 x2, i2]
  | .srhl r1 rx => encodeRx 0xCC#8 r1 rx
  | .slhl r1 rx => encodeRx 0xCD#8 r1 rx
  | .stm r1 rx => encodeRx 0xD0#8 r1 rx
  | .lm r1 rx => encodeRx 0xD1#8 r1 rx
  | .stb r1 rx => encodeRx 0xD2#8 r1 rx
  | .lb r1 rx => encodeRx 0xD3#8 r1 rx
  | .clb r1 rx => encodeRx 0xD4#8 r1 rx
  | .upsw r1 rx => encodeRx 0xD5#8 r1 rx
  | .wd r1 rx => encodeRx 0xDA#8 r1 rx
  | .oc r1 rx => encodeRx 0xDE#8 r1 rx
  | .ts r1 rx => encodeRx 0xE0#8 r1 rx
  | .svc r1 rx => encodeRx 0xE1#8 r1 rx
  | .la r1 rx => encodeRx 0xE6#8 r1 rx
  | .rrl r1 rx => encodeRx 0xEA#8 r1 rx
  | .rll r1 rx => encodeRx 0xEB#8 r1 rx
  | .srl r1 rx => encodeRx 0xEC#8 r1 rx
  | .sll r1 rx => encodeRx 0xED#8 r1 rx
  | .sra r1 rx => encodeRx 0xEE#8 r1 rx
  | .ti r1 x2 i2 => [firstHalf 0xF3#8 r1 x2, i2.extractLsb' 16 16, i2.extractLsb' 0 16]
  | .ni r1 x2 i2 => [firstHalf 0xF4#8 r1 x2, i2.extractLsb' 16 16, i2.extractLsb' 0 16]
  | .cli r1 x2 i2 => [firstHalf 0xF5#8 r1 x2, i2.extractLsb' 16 16, i2.extractLsb' 0 16]
  | .oi r1 x2 i2 => [firstHalf 0xF6#8 r1 x2, i2.extractLsb' 16 16, i2.extractLsb' 0 16]
  | .xi r1 x2 i2 => [firstHalf 0xF7#8 r1 x2, i2.extractLsb' 16 16, i2.extractLsb' 0 16]
  | .li r1 x2 i2 => [firstHalf 0xF8#8 r1 x2, i2.extractLsb' 16 16, i2.extractLsb' 0 16]
  | .ci r1 x2 i2 => [firstHalf 0xF9#8 r1 x2, i2.extractLsb' 16 16, i2.extractLsb' 0 16]
  | .ai r1 x2 i2 => [firstHalf 0xFA#8 r1 x2, i2.extractLsb' 16 16, i2.extractLsb' 0 16]
  | .si r1 x2 i2 => [firstHalf 0xFB#8 r1 x2, i2.extractLsb' 16 16, i2.extractLsb' 0 16]
  | .nop rx => encodeRx 0x42#8 0#4 rx
  | .nopr r2 => [firstHalf 0x02#8 0#4 r2]
  | .j rx => encodeRx 0x43#8 0#4 rx
  | .jr r2 => [firstHalf 0x03#8 0#4 r2]
  | .jbs n => [firstHalf 0x22#8 0#4 n]
  | .jfs n => [firstHalf 0x23#8 0#4 n]
  | .je rx => encodeRx 0x43#8 3#4 rx
  | .jer r2 => [firstHalf 0x03#8 3#4 r2]
  | .jebs n => [firstHalf 0x22#8 3#4 n]
  | .jefs n => [firstHalf 0x23#8 3#4 n]
  | .jn rx => encodeRx 0x42#8 3#4 rx
  | .jnr r2 => [firstHalf 0x02#8 3#4 r2]
  | .jnbs n => [firstHalf 0x20#8 3#4 n]
  | .jnfs n => [firstHalf 0x21#8 3#4 n]
  | .jg rx => encodeRx 0x42#8 2#4 rx
  | .jgr r2 => [firstHalf 0x02#8 2#4 r2]
  | .jgbs n => [firstHalf 0x20#8 2#4 n]
  | .jgfs n => [firstHalf 0x21#8 2#4 n]
  | .jge rx => encodeRx 0x43#8 1#4 rx
  | .jger r2 => [firstHalf 0x03#8 1#4 r2]
  | .jgebs n => [firstHalf 0x22#8 1#4 n]
  | .jgefs n => [firstHalf 0x23#8 1#4 n]
  | .jle rx => encodeRx 0x43#8 2#4 rx
  | .jler r2 => [firstHalf 0x03#8 2#4 r2]
  | .jlebs n => [firstHalf 0x22#8 2#4 n]
  | .jlefs n => [firstHalf 0x23#8 2#4 n]
  | .jl rx => encodeRx 0x42#8 1#4 rx
  | .jlr r2 => [firstHalf 0x02#8 1#4 r2]
  | .jlbs n => [firstHalf 0x20#8 1#4 n]
  | .jlfs n => [firstHalf 0x21#8 1#4 n]
  | .jc rx => encodeRx 0x42#8 8#4 rx
  | .jcr r2 => [firstHalf 0x02#8 8#4 r2]
  | .jcbs n => [firstHalf 0x20#8 8#4 n]
  | .jcfs n => [firstHalf 0x21#8 8#4 n]
  | .jnc rx => encodeRx 0x43#8 8#4 rx
  | .jncr r2 => [firstHalf 0x03#8 8#4 r2]
  | .jncbs n => [firstHalf 0x22#8 8#4 n]
  | .jncfs n => [firstHalf 0x23#8 8#4 n]

/-- The halfwords of an instruction whose bits are `w`, numbered as `spec/opcode_table.json` numbers
them: a 16-bit row is the first halfword; a longer row is the 32-bit number whose left half is the
first halfword and whose right half the second, and bits above 31 are the third (R130, log 44). -/
def tableHalves (nbits w : Nat) : List Half :=
  if nbits ≤ 16 then [BitVec.ofNat 16 w, 0#16, 0#16]
  else [BitVec.ofNat 16 (w / 65536), BitVec.ofNat 16 w, BitVec.ofNat 16 (w / 4294967296)]

/-- The instruction the decoder reads from the bytes of a table word, each halfword stored with its
left byte at the lower address (R64). -/
def decodeTableWord (nbits w : Nat) : Option Instr :=
  match decodeBytes (bytesOfHalves (tableHalves nbits w)) with
  | .instr i => some i
  | _ => none

end Sys2Proof
end

