-- ==== Sys2Proof/Machine/Fetch.lean ====
section
/-! DEFINITION. Instruction fetch (`30_encoding.md` R123, `20_memory.md` R67, `10_state.md` R45), and where
a word is placed so that the next fetch delivers it. -/

namespace Sys2Proof.Machine

/-- What the fetch of an instruction comes to. -/
inductive Fetched where
  /-- An instruction. -/
  | instr (i : Instr) (s : State)
  /-- An unassigned op code (R127). -/
  | illegal (s : State)
  /-- A MAC fault on one of its halfwords (R465). -/
  | macFault (s : State)
  /-- A stop. -/
  | fault (f : Fault)
  /-- A refusal. -/
  | refused (r : Refusal)

/-- What the halfwords fetched decode to. -/
def Fetched.of (d : Decoded) (s : State) : Fetched :=
  match d with
  | .instr i => .instr i s
  | .illegal => .illegal s
  | .rx3Reserved => .refused .rx3ReservedBits
  | .short => .illegal s

/-- Fetch from `a` on until the halfwords decode, at most `n` more; `hs` have been fetched. Each halfword
is translated on its own (R123). -/
def fetchFrom : Nat → List Half → Addr → State → Fetched
  | 0, hs, _, s => .of (decode hs) s
  | n + 1, hs, a, s =>
    if decode hs = .short then
      match translate .fetch (evenAddr a) s with
      | .ok pa =>
        match absReadHalf pa s with
        | .ok h t => fetchFrom n (hs ++ [h]) (a + 2#20) t
        | .fault f => .fault f
        | .refused r => .refused r
      | .error cause => .macFault (s.raiseMac cause)
    else .of (decode hs) s

/-- A fetch changes the MAC's last-fetch registers, to values that are not stated (R45, U13). -/
def State.noteFetch (s : State) : State :=
  { s with lastFetchAbs := s.free, lastFetchVirt := s.tick.free, freeIx := s.freeIx + 2 }

/-- The fetch of the instruction at s.pc: at most three halfwords (R111). -/
def fetchInstr (s : State) : Fetched := fetchFrom 3 [] s.pc s.noteFetch

/-- The absolute address an instruction halfword is fetched from. -/
def State.fetchPlace (s : State) (a : Addr) : Addr :=
  match translate .fetch (evenAddr a) s with
  | .ok pa => pa
  | .error _ => evenAddr a

/-- Memory with halfwords stored where they are fetched from `a` on. -/
def State.placeHalves (s : State) : List Half → Addr → Memory → Memory
  | [], _, m => m
  | h :: hs, a, m => s.placeHalves hs (a + 2#20) (m.setHalf (s.fetchPlace a) h)

/-- Nothing stands between the machine and its next fetch: it runs, and nothing is pending. -/
def State.readyToFetch (s : State) : State :=
  { s with
    halt := none
    env := []
    requests := []
    parityBreak := none
    pend := { earlyPowerDown := false, consoleAttention := false, parityError := false,
              powerRestored := false, mac := false, macWaiting := false, single := false }
    psw := { s.psw with w := false } }

/-- A table word stored where the next instruction is fetched (log 4, log 44). -/
def State.placeWord (s : State) (nbits w : Nat) : State :=
  let t := s.readyToFetch
  t.setMem (t.placeHalves (tableHalves nbits w) t.pc t.mem)

end Sys2Proof.Machine
end

