-- ==== Sys2Proof/Machine/Step.lean ====
section
/-! DEFINITION. One step: the events of an instruction boundary, then the pending condition that is
taken, or the wait state, or one instruction (`60_exceptions.md` R459, R490). -/

namespace Sys2Proof.Machine

/-- The instruction at s.pc is fetched and executed (R123, R459). -/
def runInstruction (s : State) : Host.Outcome State Fault Refusal :=
  match fetchInstr s with
  | .instr i t => exec i t
  | .illegal t => takeIllegal t
  | .macFault t => takeMacOnFetch t
  | .fault f => .fault f
  | .refused r => .refused r

/-- What happens after the events of the boundary. -/
def afterBoundary (s : State) : Host.Outcome State Fault Refusal :=
  if s.halt.isSome then .next s
  else
    match takePending s with
    | some o => o
    | none => if s.psw.w then waitState s else runInstruction s

/-- One step. A machine that has halted takes no step (R495). -/
def step (s : State) : Host.Outcome State Fault Refusal :=
  if s.halt.isSome then .fault .microcodeHalted
  else
    match boundary s with
    | .ok _ t => afterBoundary t
    | .fault f => .fault f
    | .refused r => .refused r

/-- A table word placed where `step` fetches its next instruction, so that the next step runs it. -/
def State.withFetchWord (s : State) (nbits w : Nat) : State := s.placeWord nbits w

end Sys2Proof.Machine
end

