-- ==== Sys2Proof/Safety.lean ====
section
/-! DEFINITION. The terms the statements are made in: the invariant, what an access would read or store,
the states that results are said with, and what a group of instructions leaves alone. -/

namespace Sys2Proof.Machine

/-! ## Invariant and boundary -/

/-- The invariant every step keeps: memory is in its canonical form, the program counter is even (R24), and no
instruction leaves a MAC fault behind that is neither taken nor waiting (R465, R458). -/
def State.Inv (s : State) : Prop :=
  s.mem.wf = true ∧ s.pc.getLsbD 0 = false ∧ s.pend.mac = false

/-- Nothing stands between the machine and its next instruction: it has not halted, nothing happens at
this boundary, no pending condition is enabled, it does not wait (R459, R490). -/
def State.Quiet (s : State) : Prop :=
  s.halt = none ∧ s.env.headD [] = [] ∧ takePending s.nextEvents = none ∧ s.psw.w = false

/-- One I/O request is pending, I/O interrupts are enabled, and nothing else stands at this boundary
(R458). -/
def State.Requested (s : State) (r : IoRequest) : Prop :=
  s.halt = none ∧ s.env.headD [] = [] ∧ s.parityBreak = none ∧
  s.pend = { earlyPowerDown := false, consoleAttention := false, parityError := false,
             powerRestored := false, mac := false, macWaiting := false, single := false } ∧
  s.requests = [r] ∧ s.psw.i = true

/-- Does the register set admit the level (R32): on an enhanced Engine sets 8 to F level 1, and sets C to F
level 2? -/
def State.LevelOpen (s : State) (level : IoLevel) : Prop :=
  match level with
  | .atn0 => True
  | .atn1 => s.params.enhancedInterrupts = true → 8 ≤ s.psw.rs.toNat
  | .atn2 => s.params.enhancedInterrupts = true → 12 ≤ s.psw.rs.toNat

/-- Is it a sync card's device, 20 to 3F, or to 5F with a second card (R476)? -/
def State.syncDevice (s : State) (dev : Half) : Bool :=
  decide (0x20 ≤ dev.toNat % 256) &&
    decide (dev.toNat % 256 ≤ if s.params.secondSyncCard then 0x5F else 0x3F)

/-! ## What a read would deliver, and what a store would leave -/

/-- Would reading this absolute address clear the MAC status register (D21)? -/
def State.readClears (s : State) (pa : Addr) : Bool :=
  isMacOther pa && pa.extractLsb' 2 2 == 0#2 && s.params.macStatus.clear == .onRead (pa.getLsbD 1)

/-- The halfword at an even absolute address: of a MAC register or of memory; none where no read
completes, and none where reading it changes the machine. -/
def State.absHalf (s : State) (pa : Addr) : Option Half :=
  if s.readClears pa then none
  else if isDescriptor pa then some (halfOf (pa.getLsbD 1) (s.descriptor (descriptorIndex pa)))
  else if isMacOther pa then some (halfOf (pa.getLsbD 1) (s.macOther pa))
  else if isMacReserved pa then none
  else if pagePresent s.params pa then some (s.mem.half pa)
  else none

/-- The fullword at an absolute address (R72). -/
def State.absFull (s : State) (a : Addr) : Option Word :=
  (s.absHalf (evenAddr a)).bind fun hi => (s.absHalf (evenAddr a + 2#20)).map fun lo => hi ++ lo

/-- The halfword an access of some kind reads at a program address. -/
def State.halfAt (s : State) (kind : Access) (va : Addr) : Option Half :=
  match translate kind (evenAddr va) s with
  | .ok pa => s.absHalf pa
  | .error _ => none

/-- The halfword operand at a 32-bit address (R70). -/
def State.dataHalf (s : State) (ea : Word) : Option Half := s.halfAt .read (programAddr ea)

/-- The fullword operand at a 32-bit address (R70). -/
def State.dataFull (s : State) (ea : Word) : Option Word :=
  (s.halfAt .read (programAddr ea)).bind fun hi =>
    (s.halfAt .read (evenAddr (programAddr ea) + 2#20)).map fun lo => hi ++ lo

/-- The byte operand at a 32-bit address (R70). -/
def State.dataByte (s : State) (ea : Word) : Option Byte :=
  (s.dataHalf ea).map fun h => byteAt (programAddr ea) h

/-- The state after a halfword is stored at an even absolute address: in a descriptor or in memory;
none where no store completes. -/
def State.storedAbs (s : State) (pa : Addr) (h : Half) : Option State :=
  if isDescriptor pa then some (s.setDescriptorHalf pa h)
  else if isMacOther pa then none
  else if isMacReserved pa then none
  else if pagePresent s.params pa then some (s.setMem (s.mem.setHalf pa h))
  else none

/-- The state after a halfword is stored at a program address. -/
def State.storedAt (s : State) (va : Addr) (h : Half) : Option State :=
  match translate .write (evenAddr va) s with
  | .ok pa => s.storedAbs pa h
  | .error _ => none

/-- The state after a halfword is stored at a 32-bit address (R71). -/
def State.storedHalf (s : State) (ea : Word) (h : Half) : Option State := s.storedAt (programAddr ea) h

/-- The state after a fullword is stored at a 32-bit address, the lower address first (R71). -/
def State.storedFull (s : State) (ea v : Word) : Option State :=
  (s.storedAt (programAddr ea) (v.extractLsb' 16 16)).bind fun t =>
    t.storedAt (evenAddr (programAddr ea) + 2#20) (v.setWidth 16)

/-- The state after fullwords are stored one after another from a 32-bit address on. -/
def State.storedFulls : List Word → Word → State → Option State
  | [], _, s => some s
  | v :: vs, ea, s => (s.storedFull ea v).bind fun t => State.storedFulls vs (ea + 4#32) t

/-- The absolute address of present main memory that a halfword store at a 32-bit address goes to. -/
def State.StoresTo (s : State) (ea : Word) (pa : Addr) : Prop :=
  translate .write (evenAddr (programAddr ea)) s = .ok pa ∧ isPlain s.params pa = true

/-! ## States that results are said with -/

/-- The condition code of a signed result, with a carry. -/
def ccOf (c : Bool) (z : Int) : Flags :=
  { c := c, v := false, g := decide (0 < z), l := decide (z < 0) }

/-- After a load: x[R1] holds the value, G and L say what it is, C is unspecified. -/
def State.loaded (s : State) (r1 : Reg) (v : Word) (len : Nat) : State :=
  ((s.begin.setReg r1 v).tick.setFlags (ccOf s.freeBit v.toInt)).setPc (nextAddr s.pc len)

/-- After an operation whose carry is determined: x[R1] holds the value. -/
def State.computed (s : State) (r1 : Reg) (v : Word) (c : Bool) (len : Nat) : State :=
  ((s.begin.setReg r1 v).setFlags (ccOf c v.toInt)).setPc (nextAddr s.pc len)

/-- After an operation that only sets the condition code. -/
def State.compared (s : State) (c : Bool) (z : Int) (len : Nat) : State :=
  (s.begin.setFlags (ccOf c z)).setPc (nextAddr s.pc len)

/-- After a shift by `n`: for n = 0 the carry is unspecified. -/
def State.shifted (s : State) (r1 : Reg) (n : Nat) (v : Word) (c : Bool) (z : Int) (len : Nat) : State :=
  (if n = 0 then (s.begin.setReg r1 v).tick.setFlags (ccOf s.freeBit z)
  else (s.begin.setReg r1 v).setFlags (ccOf c z)).setPc (nextAddr s.pc len)

/-- What a halfword shift tests, by `HALFSHIFT_CC_WIDTH`. -/
def State.halfTested (s : State) (h : Half) (w : Word) : Int :=
  match s.params.halfShift with
  | .width16 => h.toInt
  | .width32 => w.toInt

/-- After a PSW swap that saves the old PSW and a location in registers 14 and 15 of the set the new
PSW selects (R451). -/
def State.swapped (s : State) (newPsw newPc : Word) (saved : Addr) : State :=
  (((s.setPsw (Psw.ofImage newPsw)).setReg 14#4 s.psw.image).setReg 15#4 (pcImage saved)).setPc
    (pcOfImage newPc)

/-- The words at two dedicated locations are a new PSW and an even new location. -/
def State.NewContext (s : State) (pswAt pcAt : Addr) (newPsw newPc : Word) : Prop :=
  s.absFull pswAt = some newPsw ∧ s.absFull pcAt = some newPc ∧ (pcOfImage newPc).getLsbD 0 = false

/-- The instruction takes the illegal instruction interrupt whenever the dedicated locations hold a
usable context (R462). -/
def TakesIllegal (i : Instr) (s : State) : Prop :=
  ∀ newPsw newPc, s.NewContext 0x30#20 0x34#20 newPsw newPc →
    exec i s = .next (s.swapped newPsw newPc (illegalSavedPc s.params s.pc))

/-- After a MAC fault that was the instruction's only effect: the cause is recorded, and the MAC
interrupt has been taken (R465). -/
def State.macTaken (s : State) (cause : MacCause) (newPsw newPc : Word) (saved : Addr) : State :=
  (((s.begin.raiseMac cause).setMacPending false).setMacWaiting false).swapped newPsw newPc saved

/-- After such a fault with a machine malfunction due: the cause is recorded, and the MAC interrupt waits
(R458). -/
def State.macHeld (s : State) (cause : MacCause) (left : Addr) : State :=
  (((s.begin.raiseMac cause).setMacPending false).setMacWaiting true).setPc (evenAddr left)

/-- The bits of the condition code that a mask selects (R260). -/
def State.maskedCc (s : State) (mask : Nib) : Half := s.psw.toBits &&& mask.setWidth 16

/-- How a jump instruction completes: not taken, it goes on; taken with psw.T = 0, it goes to the
target; an odd target is refused, whatever psw.T is (R274, D18). -/
def JumpsWhen (i : Instr) (taken : State → Bool) (target : State → Addr) : Prop :=
  ∀ s : State,
    (taken s = false → exec i s = .next (s.begin.setPc (nextAddr s.pc i.length))) ∧
    (taken s = true → s.psw.t = false → (target s).getLsbD 0 = false →
      exec i s = .next (s.begin.setPc (target s))) ∧
    (taken s = true → (target s).getLsbD 0 = true → exec i s = .refused .oddProgramCounter)

/-- How a taken jump traps with psw.T = 1, from the state `u` in which its other effects are done
(R485); an odd target is refused (R274, D18). -/
def TrapsFrom (i : Instr) (s u : State) (target : Addr) : Prop :=
  (target.getLsbD 0 = false →
    ∀ v w x, u.storedFull 0x14#32 (pcImage target) = some v →
      v.storedFull 0x10#32 s.psw.image = some w → w.dataFull 0x18#32 = some x →
      (pcOfImage x).getLsbD 0 = false →
      exec i s = .next ((w.setPsw { w.psw with t := false }).setPc (pcOfImage x))) ∧
  (target.getLsbD 0 = true → exec i s = .refused .oddProgramCounter)

/-! ## What is left alone -/

/-- Nothing but the general registers, the condition code and the program counter differs, and of the
registers only those listed, of the selected set (the model's own count of free values apart). -/
def State.OnlyRegs (s t : State) (ds : List Reg) : Prop :=
  t = { s.begin with regs := t.regs, pc := t.pc, freeIx := t.freeIx,
                     psw := { s.psw with c := t.psw.c, v := t.psw.v, g := t.psw.g, l := t.psw.l } } ∧
  ∀ k r, ¬(k = s.psw.rs ∧ r ∈ ds) → t.regIn k r = s.regIn k r

/-- What belongs to the environment and the installation is as before. -/
def State.SameOutside (s t : State) : Prop :=
  t.params = s.params ∧ t.env = s.env ∧ t.requests = s.requests ∧ t.halt = s.halt ∧
  t.switches = s.switches ∧ t.copyBreak = s.copyBreak ∧ t.parityBreak = s.parityBreak ∧
  t.parityAddr = s.parityAddr ∧
  t.lastFetchAbs = s.lastFetchAbs ∧ t.lastFetchVirt = s.lastFetchVirt ∧
  t.pend.parityError = s.pend.parityError ∧ t.pend.powerRestored = s.pend.powerRestored ∧
  t.pend.earlyPowerDown = s.pend.earlyPowerDown ∧ t.pend.consoleAttention = s.pend.consoleAttention ∧
  t.pend.single = s.pend.single

/-- Of the PSW only the trace bit and the condition code differ. -/
def State.SameContext (s t : State) : Prop :=
  t.psw = { s.psw with t := t.psw.t, c := t.psw.c, v := t.psw.v, g := t.psw.g, l := t.psw.l }

/-- The PSW in force is the one at a dedicated location. -/
def State.Entered (t : State) (pswAt : Addr) : Prop :=
  t.psw = Psw.ofImage (t.mem.half pswAt ++ t.mem.half (pswAt + 2#20))

/-! ## The copies of RTD and RMA (R389 to R392) -/

/-- The address of the k-th character to be copied: for RTD from register 12 on, for RMA from register 3,
which is BB. -/
def State.copyFrom (s : State) (rtd : Bool) (k : Nat) : Word :=
  s.reg (if rtd then 12#4 else 3#4) + BitVec.ofNat 32 k

/-- The address the k-th character goes to: for RTD after register 3, which is BE, the address of the last
character input; for RMA after register 12, the address of the record less 1. -/
def State.copyTo (s : State) (rtd : Bool) (k : Nat) : Word :=
  s.reg (if rtd then 3#4 else 12#4) + BitVec.ofNat 32 (k + 1)

/-- The address of the k-th character in the bufferlet. -/
def State.bufferAt (s : State) (rtd : Bool) (k : Nat) : Word :=
  s.reg 3#4 + BitVec.ofNat 32 (if rtd then k + 1 else k)

/-- The first `c` characters, `b 0` and so on, can be copied within the bufferlet: they can be read, their
places are in main memory, and no place is in a halfword of theirs or of the in-line data. -/
def State.Copyable (s : State) (rtd : Bool) (b : Nat → Byte) (c : Nat) : Prop :=
  ∀ k, k < c →
    let place := evenAddr (programAddr (s.copyTo rtd k))
    (s.bufferAt rtd k).toNat % 16 ≠ 0 ∧ s.dataByte (s.copyFrom rtd k) = some (b k) ∧
    isPlain s.params place = true ∧
    (∀ j, j < c → evenAddr (programAddr (s.copyFrom rtd j)) ≠ place) ∧
    ∀ j, 1 ≤ j → j ≤ 6 → evenAddr (programAddr (pcImage s.pc + BitVec.ofNat 32 (2 * j))) ≠ place

/-- RMA's R1 holds the current halfwords of the record, on the left, and of the bufferlet, on the right
(R389). -/
def State.CurrentHalves (s : State) (r1 : Reg) : Prop :=
  s.dataHalf (s.copyTo false 0) = some ((s.reg r1).extractLsb' 16 16) ∧
  s.dataHalf (s.copyFrom false 0) = some ((s.reg r1).extractLsb' 0 16)

/-- After a copy of `c` characters: they are stored, nothing else of memory has changed, and no register but
x[R1], the count in x[R2], the address after them in register 12 and that of the bufferlet in register
3. -/
def State.CopiedTo (s t : State) (rtd : Bool) (r1 r2 : Reg) (b : Nat → Byte) (c left : Nat)
    (buffer : Word) : Prop :=
  (∀ k, k < c → t.dataByte (s.copyTo rtd k) = some (b k)) ∧
  (∀ x, (∀ k, k < c → x ≠ (programAddr (s.copyTo rtd k)).toNat) → t.mem.read x = s.mem.read x) ∧
  t.reg 3#4 = buffer ∧ t.reg 12#4 = s.reg 12#4 + BitVec.ofNat 32 c ∧
  (r2 ≠ 3#4 → r2 ≠ 12#4 → t.reg r2 = BitVec.ofNat 32 left) ∧
  ∀ k r, ¬(k = s.psw.rs ∧ r ∈ [r1, r2, 12#4, 3#4]) → t.regIn k r = s.regIn k r

end Sys2Proof.Machine
end

