-- ==== Sys2Proof/Certificates/Slice0/Obligations.lean ====
section
/-! DEFINITION. The statements for the provers. Each docstring names the rules of spec/ it formalises, and
the choices of the spec (D<n>) and of the model (the log entries) that it rests on. Nearly every statement
reads or writes memory, addresses or images, for which the spec's own choices are: big-endian order (D1, log 6),
the low bit of a halfword's or fullword's address ignored (D2, log 7), addresses used and the program counter
advanced modulo 2^20 (D3, log 8), zeros and ignored bits in PSW and location images (D6, D7, log 9), the
dedicated locations absolute (D39, log 39). -/

open Sys2Proof Sys2Proof.Machine

/-! ## Reset, invariant, whole-machine rules -/

/-- R520 and R49 with the model's choices of log 1 to 3: the recommended reset state. -/
def Obligations.ResetState : Prop :=
  State.reset.psw.toBits = 0#16 ∧ State.reset.pc = 0#20 ∧
  (∀ k r, State.reset.regIn k r = 0#32) ∧ (∀ n, State.reset.descriptor n = 0#32) ∧
  (∀ a, State.reset.mem.read a = 0#8) ∧ State.reset.requests = [] ∧ State.reset.halt = none ∧
  State.reset.pend = { earlyPowerDown := false, consoleAttention := false, parityError := false,
                       powerRestored := false, mac := false, macWaiting := false, single := false }

/-- The invariant holds after reset. -/
def Obligations.ResetInv : Prop := State.reset.Inv

/-- Every step keeps the invariant: canonical memory, an even program counter (R24), no MAC fault left behind
that is neither taken nor waiting (R465, R458). That an odd location is refused, and so never stands in the
program counter, is the spec's own choice (D18, log 20); that a MAC interrupt may wait is the model's reading
(log 24). -/
def Obligations.StepKeepsInv : Prop := ∀ s t : State, s.Inv → step s = .next t → t.Inv

/-- The model's choice, not a rule of the spec: no instruction changes what belongs to the environment and the
installation. R7, R45, R47, R48 and R360 name these fields and say nothing of an instruction that changes
them. That the requests, the events, the coming parity error, the pending conditions but the MAC's, the
console's "single" and switches and the halt are the environment's alone is the model's reading of that
silence (DESIGN CHOICE, log 2, log 38, log 48 to 50); that the parity-error address changes only by an event is its
choice where U13 leaves 0x348 any value, and unsafe, and the last-fetch registers change with the fetch alone
(DESIGN CHOICE, log 45). -/
def Obligations.ExecKeepsOutside : Prop :=
  ∀ (i : Instr) (s t : State), exec i s = .next t → s.SameOutside t

/-- R455: "UPSW cannot change it; there is no other way". With psw.P = 1 an instruction changes of the PSW
only T and the condition code, unless it enters the PSW at one of the dedicated locations of the illegal
instruction, MAC or supervisor call interrupts. That the locations of a supervisor call are absolute in a
relocated program too is the spec's own choice (D39, log 39). -/
def Obligations.UserCannotGainPrivilege : Prop :=
  ∀ (i : Instr) (s t : State), s.psw.p = true → exec i s = .next t →
    s.SameContext t ∨ t.Entered 0x30#20 ∨ t.Entered 0x90#20 ∨ t.Entered 0x98#20

/-- R47, R63, R350: the display is reached only by CIO, and the multiplexor bus only by the I/O instructions.
The bus's answers and the record of it are the model's form of the devices (D20, log 21). -/
def Obligations.OnlyIoReachesOut : Prop :=
  ∀ (i : Instr) (s t : State), exec i s = .next t →
    ((∀ r1 r2, i ≠ .cio r1 r2) →
      t.displayLeft = s.displayLeft ∧ t.displayRight = s.displayRight) ∧
    ((t.busIn = s.busIn ∧ t.busOut = s.busOut) ∨
    (∃ r1 r2 rx, i = .ssr r1 r2 ∨ i = .rdr r1 r2 ∨ i = .ocr r1 r2 ∨ i = .wdr r1 r2 ∨ i = .oc r1 rx ∨
      i = .wd r1 rx))

/-! ## Encoding -/

/-- Decode and encode agree: every well-formed instruction is read back from its words, whatever halfwords
follow (R110 to R123). That the shifts have the RX2 and RX3 forms is the spec's own choice (D11, log 13), and
that each extended jump mnemonic is a constructor of its own is the model's (log 43). -/
def Obligations.DecodeEncode : Prop :=
  ∀ (i : Instr) (rest : List Half), i.wellFormed = true →
    decode (encode i ++ rest) = .instr i

/-- Encode and decode agree: what is decoded as an instruction is well-formed and begins with the words of
that instruction, so that no two instructions share their words. That the shifts have the RX2 and RX3 forms
(D11, log 13), and that an RX3 encoding with bits 18:19 not 00 is none (D12, log 14), are the spec's own
choices; that each extended jump mnemonic is a constructor of its own is the model's (log 43). -/
def Obligations.EncodeDecode : Prop :=
  ∀ (hs : List Half) (i : Instr), decode hs = .instr i → i.wellFormed = true ∧ encode i <+: hs

/-- Words of the spec's worked examples (R112 to R119, R264 for JR, R333 for LPSWR) decode to the
instructions it prints; that JR is a constructor of its own is the model's choice of names (log 43). -/
def Obligations.DecodeExamples : Prop :=
  decode [0x0865#16] = .instr (.lr 6#4 5#4) ∧
  decode [0x245E#16] = .instr (.lis 5#4 14#4) ∧
  decode [0xC841#16, 0x1234#16] = .instr (.lhi 4#4 1#4 0x1234#16) ∧
  decode [0xF820#16, 0xFFFF#16, 0xFFEE#16] = .instr (.li 2#4 0#4 0xFFFFFFEE#32) ∧
  decode [0xE641#16, 0x1234#16] = .instr (.la 4#4 (.rx1 1#4 0x1234#14)) ∧
  decode [0xE641#16, 0x9234#16] = .instr (.la 4#4 (.rx2 1#4 0x1234#15)) ∧
  decode [0xE641#16, 0x4600#16, 0x1234#16] = .instr (.la 4#4 (.rx3 1#4 6#4 0x1234#24)) ∧
  decode [0x030F#16] = .instr (.jr 15#4) ∧ decode [0x18FE#16] = .instr (.lpswr 15#4 14#4)

/-- R127: the op codes without an instruction are illegal, 130 of them, 0x17 and 0x19 included; that these
are the ones is the spec's own choice (D32, log 34). R120, D12 (log 14): an RX3 encoding with bits 18:19
not 00 is refused. -/
def Obligations.NoInstruction : Prop :=
  (∀ h0 rest, opClass (opField h0) = .illegal → decode (h0 :: rest) = .illegal) ∧
  ((List.range 256).filter fun op => opClass (BitVec.ofNat 8 op) = .illegal) =
    [0x00, 0x17, 0x19, 0x1A, 0x1B, 0x1E, 0x1F] ++ List.range' 0x28 8 ++ [0x30, 0x32, 0x3D, 0x4E, 0x4F,
      0x52, 0x53, 0x5E, 0x5F, 0x60] ++ List.range' 0x62 14 ++ [0x70, 0x71, 0x72] ++
      List.range' 0x78 24 ++ [0x96, 0x97, 0x98, 0x9C, 0x9F] ++ List.range' 0xA0 34 ++
      [0xCE, 0xCF, 0xD6, 0xD7, 0xD8, 0xD9, 0xDB, 0xDC, 0xDD, 0xDF, 0xE2, 0xE3, 0xE4, 0xE5, 0xE7, 0xE8,
        0xE9, 0xEF, 0xF0, 0xF1, 0xF2, 0xFC, 0xFD, 0xFE, 0xFF] ∧
  ∀ (h0 h1 h2 : Half) (rest : List Half), opClass (opField h0) = .rx → h1.extractLsb' 14 2 = 1#2 →
    h1.extractLsb' 12 2 ≠ 0#2 → decode (h0 :: h1 :: h2 :: rest) = .rx3Reserved

/-! ## The step -/

/-- A step runs the decoded instruction: at a quiet boundary, when the halfwords at the program counter are
those of an instruction, the step is that instruction, from the state `t` in which this boundary's (empty)
events are used up and the MAC's last-fetch registers have changed (R123, R45, R459). That every fetch reads
current memory is the spec's own choice (D5, log 42), and that the last-fetch registers then hold free values
the model's (log 45). -/
def Obligations.StepRunsDecoded : Prop :=
  ∀ (s t : State) (hs : List Half) (i : Instr), s.Quiet → t = s.nextEvents.noteFetch →
    decode hs = .instr i → 2 * hs.length = i.length →
    (∀ k : Nat, k < hs.length →
      t.halfAt .fetch (t.pc + BitVec.ofNat 20 (2 * k)) = some (hs.getD k 0#16)) →
    step s = exec i t

/-- R127, R462: at a quiet boundary an unassigned op code takes the illegal instruction interrupt. Which op
codes are unassigned is the spec's own choice (D32, log 34), and so are the zeros and the ignored bits of PSW
and location images (D6, D7, log 9); the saved location is the parameter ILLEGAL_SAVED_PC (D13, log 15). -/
def Obligations.StepTakesIllegal : Prop :=
  ∀ (s t : State) (h0 : Half) (newPsw newPc : Word), s.Quiet → t = s.nextEvents.noteFetch →
    t.halfAt .fetch t.pc = some h0 → opClass (opField h0) = .illegal →
    t.NewContext 0x30#20 0x34#20 newPsw newPc →
    step s = .next (t.swapped newPsw newPc (illegalSavedPc t.params t.pc))

/-- R465, R459: a MAC fault on the instruction's own fetch: the instruction has no effect, the cause is
recorded, and the MAC interrupt is taken; under `current` the saved location is the instruction's. That the
instruction has no effect (D14, log 16), that the wait bit of the new PSW is an ordinary bit (D27, log 28),
and the zeros and the ignored bits of PSW and location images (D6, D7, log 9), are the spec's own choices. -/
def Obligations.FetchFaultTakesMac : Prop :=
  ∀ (s : State) (cause : MacCause) (newPsw newPc : Word), s.Quiet → s.Inv →
    translate .fetch s.pc s = .error cause → s.params.macSavedPc = .current →
    s.NewContext 0x90#20 0x94#20 newPsw newPc →
    step s = .next (s.nextEvents.noteFetch.tick.macTaken cause newPsw newPc s.pc)

/-- R490, U26: waiting with I/O and machine malfunction interrupts disabled never ends, which the model
calls a fault; with one of them enabled and nothing pending, the machine stays as it is (D34, log 36,
PRESUMED). R458 rank 1, R495: early power failure halts with console code 060 and the display 00060 DEAD,
and a machine that has halted takes no step (log 50). The halts of the I/O levels: no enhancement (160,
1A0), no answer to the acknowledge (1E9, 608), a device out of the sync range, whatever psw.S is, which
affects only sync cards (R37): 610. That level 0 halts with 1E9 and that 608 and 610 need no psw.S are the
model's reading (DEDUCED, log 53). -/
def Obligations.WaitAndHalt : Prop :=
  (∀ s : State, s.halt = none → s.env.headD [] = [] → takePending s.nextEvents = none →
    s.psw.w = true →
    step s = (if s.psw.i = false ∧ s.psw.m = false then .fault .waitingForever
      else .next s.nextEvents)) ∧
  (∀ s : State, s.halt = none → s.env.headD [] = [] → s.pend.earlyPowerDown = true →
    step s = .next { s.nextEvents with halt := some 0x060#12, displayLeft := 0x00060#20,
                                       displayRight := 0xDEAD#16 }) ∧
  (∀ (s : State) (code : BitVec 12), s.halt = some code → step s = .fault .microcodeHalted) ∧
  ∀ (s : State) (r : IoRequest), s.Requested r →
    let halted (code : BitVec 12) : Prop :=
      step s = .next { s.nextEvents with requests := [], halt := some code,
                                         displayLeft := code.setWidth 20, displayRight := 0xDEAD#16 }
    (r.level = .atn0 →
      (s.params.enhancedAsync = false → s.params.enhancedSync = false → halted 0x160#12) ∧
      (s.params.enhancedAsync = true ∨ s.params.enhancedSync = true → r.ack = none →
        halted 0x1E9#12)) ∧
    (r.level = .atn1 → (s.params.enhancedInterrupts = true → 8 ≤ s.psw.rs.toNat) →
      (s.params.enhancedSync = false → halted 0x1A0#12) ∧
      (s.params.enhancedSync = true → r.ack = none → halted 0x608#12) ∧
      ∀ dev : Half, s.params.enhancedSync = true → r.ack = some dev →
        s.syncDevice dev = false → halted 0x610#12) ∧
    (r.level = .atn2 → (s.params.enhancedInterrupts = true → 12 ≤ s.psw.rs.toNat) → r.ack = none →
      halted 0x1E9#12)

/-- R460: the machine malfunction interrupt of a parity error: the old PSW and location go to 0x20 and 0x24,
the new ones come from 0x38 and 0x3C, and the condition code is 0010; of a power restore: what is stored there
is open, and the condition code is 0000. That the code is that of the new PSW is the spec's own choice (D24,
log 25). That it comes before the MAC and the I/O interrupts is the spec's own choice (D23, log 24), as are
the zeros and the ignored bits of PSW and location images (D6, D7, log 9); that a parity error comes before a
power restore is DEDUCED (log 24). -/
def Obligations.MachineMalfunction : Prop :=
  (∀ (s u : State) (newPsw newPc : Word), s.halt = none → s.env.headD [] = [] →
    s.pend.earlyPowerDown = false → s.pend.consoleAttention = false → s.psw.m = true →
    s.pend.parityError = true → pagePresent s.params 0x20#20 = true →
    u = s.nextEvents.setMem ((((s.mem.setHalf 0x20#20 0#16).setHalf 0x22#20 s.psw.toBits).setHalf
      0x24#20 ((pcImage s.pc).extractLsb' 16 16)).setHalf 0x26#20 (s.pc.setWidth 16)) →
    u.NewContext 0x38#20 0x3C#20 newPsw newPc →
    step s = .next
      { u with psw := { Psw.ofImage newPsw with c := false, v := false, g := true, l := false }
               pend := { u.pend with parityError := false }
               pc := pcOfImage newPc }) ∧
  ∀ s : State, s.halt = none → s.env.headD [] = [] → s.parityBreak = none →
    s.pend.earlyPowerDown = false → s.pend.consoleAttention = false → s.psw.m = true →
    s.pend.parityError = false → s.pend.powerRestored = true → pagePresent s.params 0x20#20 = true →
    ∃ x y : Word, ∀ (u : State) (newPsw newPc : Word),
      u = s.nextEvents.tick.tick.setMem ((((s.mem.setHalf 0x20#20 (x.extractLsb' 16 16)).setHalf 0x22#20
        (x.setWidth 16)).setHalf 0x24#20 (y.extractLsb' 16 16)).setHalf 0x26#20 (y.setWidth 16)) →
      u.NewContext 0x38#20 0x3C#20 newPsw newPc →
      step s = .next
        { u with psw := { Psw.ofImage newPsw with c := false, v := false, g := false, l := false }
                 pend := { u.pend with powerRestored := false }
                 pc := pcOfImage newPc }

/-- R470, R471, R458: a conventional I/O interrupt on an enabled level: registers 0, 1 and 2 of set 0 take the
old PSW, the old location and the device address, the PSW becomes 0x2000, and control goes to the location in
the table entry at 0xD0 + 2 times the device number; on level 1 so does a sync card's with psw.S = 0, and any
other device's halts (WaitAndHalt). R476: with psw.S = 1 a sync card's interrupt on level 1 is handed on with
the PSW 0x6200 if the line's output index is 0 or its input index negative, or else serviced without a swap,
when only that index, and the ring for an input, may change in memory (which line and which of its interrupts
it is, are the environment's: log 38). R480, R402: the interrupts of 70 to 75 are serviced by the async
microcode, which, initialised (R400), writes sets 1 to 4 and its storage; 75 counts the timer down and, making
it negative in set F, enters its routine in set D. The priority of the levels is the spec's own choice (D23,
log 24); so are the footprint of the services (D38, log 38) and the PSW of the timer routine, the interrupted
one with register set D (D41, log 41). That a sync card's request on level 0 or 2 is conventional whatever
psw.S is, is the model's choice (DESIGN CHOICE, log 53). That the async service is initialised, which is
State.asyncReady, is the model's reading of R400, R401 and R407 (DEDUCED, log 54). The images saved have zeros
in their upper bits by the spec's own choice (D6, D7, log 9); when the timer routine is entered is DEDUCED
(log 41). -/
def Obligations.IoInterrupt : Prop :=
  ∀ (s : State) (r : IoRequest) (dev : Half), s.Requested r → s.LevelOpen r.level →
    r.ack = some dev →
    let number := dev.toNat % 256
    let timer : Prop := s.params.enhancedAsync = true ∧ 0x70 ≤ number ∧ number ≤ 0x75
    let plainly : Prop := r.level = .atn1 →
      s.params.enhancedSync = true ∧ s.psw.s = false ∧ s.syncDevice dev = true
    let entered (u : State) (newPsw entry : Half) : State :=
      ({ ((((u.setRegIn 0#4 0#4 s.psw.image).setRegIn 0#4 1#4 (pcImage s.pc)).setRegIn 0#4 2#4
          (dev.setWidth 32)).setPsw (Psw.ofBits newPsw)) with requests := [] }.setPc (entry.setWidth 20))
    let line : Word := BitVec.ofNat 32 (0x400 + 10 * (r.service.line % if s.params.secondSyncCard then 32 else 16))
    let half (ea : Word) : Half := s.serviceHalf r.service ea
    let block : Word := half line ++ half (line + 2#32)
    let handOn : Prop := if r.service.output then half (line + 4#32) = 0#16 else (half block).msb = true
    let bySync : Prop := r.level = .atn1 ∧ s.params.enhancedSync = true ∧ s.psw.s = true ∧
      s.syncDevice dev = true
    (∀ entry : Half, s.absHalf (BitVec.ofNat 20 (0xD0 + 2 * number)) = some entry →
      entry.getLsbD 0 = false →
      (¬timer → plainly →
        (r.level = .atn0 → s.params.enhancedAsync = true ∨ s.params.enhancedSync = true) →
        step s = .next (entered s.nextEvents 0x2000#16 entry)) ∧
      (bySync → handOn →
        step s = .next (entered (s.nextEvents.syncInput r.service) 0x6200#16 entry))) ∧
    (bySync → ¬handOn →
      ∃ m : Memory, step s = .next { s.nextEvents.syncInput r.service with mem := m, requests := [] } ∧
        ∀ x, (∀ pa ∈ (if r.service.output then s.servicePlaces r.service (line + 4#32) 1
            else s.servicePlaces r.service block 129),
          x ≠ evenBase pa ∧ x ≠ evenBase pa + 1) → m.read x = s.mem.read x) ∧
    (timer → plainly → s.asyncReady = true →
      let count := s.regIn 13#4 14#4
      let due : Prop := number = 0x75 ∧ s.psw.rs = 15#4 ∧ count = 0#32
      (¬due → ∃ t, step s = .next t ∧
        t = { s.nextEvents with regs := t.regs, mem := t.mem, requests := [] } ∧
        t.regIn 13#4 14#4 = (if number = 0x75 then count - 1#32 else count) ∧
        (∀ k x, ¬(1 ≤ k.toNat ∧ k.toNat ≤ 4) → ¬(k = 13#4 ∧ x = 14#4) → t.regIn k x = s.regIn k x) ∧
        ∀ x, (∀ pa ∈ s.asyncPlaces r.service, x ≠ evenBase pa ∧ x ≠ evenBase pa + 1) →
          t.mem.read x = s.mem.read x) ∧
      (due → (s.regIn 13#4 15#4).getLsbD 0 = false → ∃ t, step s = .next t ∧
        t.psw = { s.psw with rs := 13#4 } ∧ t.pc = (s.regIn 13#4 15#4).setWidth 20 ∧
        t.regIn 13#4 0#4 = s.psw.image ∧ t.regIn 13#4 1#4 = pcImage s.pc ∧
        t.regIn 13#4 14#4 = 0xFFFFFFFF#32))

/-! ## Memory and the MAC -/

/-- R65, in the big-endian order that R64 chooses (D1, log 6): an unrelocated ST of 0x11223344 to a multiple
of 4 in main memory; bytes, halfwords and the fullword then read there as that order says. That the address is
used modulo 2^20 is its choice too (D3, log 8). -/
def Obligations.MixedWidths : Prop :=
  ∀ (s : State) (r1 : Reg) (rx : RxAddr), s.psw.rp = false → s.mem.wf = true →
    (s.effAddr rx).toNat % 4 = 0 → isPlain s.params (programAddr (s.effAddr rx)) = true →
    s.reg r1 = 0x11223344#32 →
    ∃ t, exec (.st r1 rx) s = .next t ∧ t.dataByte (s.effAddr rx) = some 0x11#8 ∧
      t.dataByte (s.effAddr rx + 1#32) = some 0x22#8 ∧ t.dataByte (s.effAddr rx + 2#32) = some 0x33#8 ∧
      t.dataByte (s.effAddr rx + 3#32) = some 0x44#8 ∧ t.dataHalf (s.effAddr rx) = some 0x1122#16 ∧
      t.dataHalf (s.effAddr rx + 2#32) = some 0x3344#16 ∧
      t.dataFull (s.effAddr rx) = some 0x11223344#32

/-- R90, R36: the four checks and the absolute address, for a relocated access; with psw.RP = 0 nothing is
relocated or checked. The order of the checks and the sum PP + KKK modulo 4096 are the spec's own choice
(D22, log 23). -/
def Obligations.Translation : Prop :=
  (∀ (s : State) (kind : Access) (va : Addr), s.psw.rp = false → translate kind va s = .ok va) ∧
  ∀ (s : State) (kind : Access) (va : Addr) (d : Word), s.psw.rp = true →
    d = s.descriptor (BitVec.ofNat 4 (va.toNat / 65536)) →
    let page := va.toNat / 256 % 256
    (d.getMsbD 27 = false → translate kind va s = .error .notPresent) ∧
    (d.getMsbD 27 = true → d.toNat / 2 ^ 20 % 256 < page → translate kind va s = .error .limit) ∧
    (d.getMsbD 27 = true → page ≤ d.toNat / 2 ^ 20 % 256 → kind = .fetch → d.getMsbD 24 = true →
      translate kind va s = .error .execute) ∧
    (d.getMsbD 27 = true → page ≤ d.toNat / 2 ^ 20 % 256 → kind = .write → d.getMsbD 26 = true →
      translate kind va s = .error .write) ∧
    (d.getMsbD 27 = true → page ≤ d.toNat / 2 ^ 20 % 256 → ¬(kind = .fetch ∧ d.getMsbD 24 = true) →
      ¬(kind = .write ∧ d.getMsbD 26 = true) →
      translate kind va s =
        .ok (BitVec.ofNat 20 ((page + d.toNat / 256 % 4096) % 4096 * 256 + va.toNat % 256)))

/-- The MAC's registers as memory, unrelocated. R43, R96: ST to 0x300 + 4 n replaces MAC register n, all 32
bits of it (D35, log 37); no other one, no memory and no general register changes. R44, R45, R82: L reads the
status register at 0x340 as MAC_STATUS_LAYOUT lays the four causes out (D21, log 22) and the three registers
after it; a layout that a read of one half clears is cleared by that half alone. C13, U7, U13 (log 46): a
store to 0x340 to 0x34F and any access to 0x350 to 0x3FF is refused. That all 32 bits of a MAC register are
kept is the spec's own choice (D35, log 37). -/
def Obligations.DescriptorStore : Prop :=
  ∀ (s : State) (n : Nib) (r1 : Reg) (rx : RxAddr) (right : Bool), s.psw.rp = false →
    let ea := s.effAddr rx
    let y := s.params.macStatus
    let status : Word :=
      (if s.macStatus.notPresent then y.notPresent else 0#32) |||
      (if s.macStatus.limit then y.limit else 0#32) |||
      (if s.macStatus.execute then y.execute else 0#32) ||| (if s.macStatus.write then y.write else 0#32)
    let half : Half := if right then status.setWidth 16 else status.extractLsb' 16 16
    (ea = BitVec.ofNat 32 (0x300 + 4 * n.toNat) →
      ∃ t, exec (.st r1 rx) s = .next t ∧ t.descriptor n = s.reg r1 ∧
        (∀ k, k ≠ n → t.descriptor k = s.descriptor k) ∧
        t = { s.begin with macDesc := t.macDesc, pc := nextAddr s.pc rx.length }) ∧
    (ea = 0x340#32 → (∀ b, y.clear ≠ .onRead b) →
      exec (.l r1 rx) s = .next (s.loaded r1 status rx.length)) ∧
    (ea = (if right then 0x342#32 else 0x340#32) →
      (y.clear = .onRead right →
        exec (.lh r1 rx) s = .next
          ({ s with macStatus := { notPresent := false, limit := false, execute := false,
                                   write := false } }.loaded r1 (half.signExtend 32) rx.length)) ∧
      (y.clear ≠ .onRead right →
        exec (.lh r1 rx) s = .next (s.loaded r1 (half.signExtend 32) rx.length))) ∧
    (ea = 0x344#32 → exec (.l r1 rx) s = .next (s.loaded r1 s.lastFetchAbs rx.length)) ∧
    (ea = 0x348#32 → exec (.l r1 rx) s = .next (s.loaded r1 s.parityAddr rx.length)) ∧
    (ea = 0x34C#32 → exec (.l r1 rx) s = .next (s.loaded r1 s.lastFetchVirt rx.length)) ∧
    (0x340 ≤ ea.toNat → ea.toNat < 0x350 → exec (.sth r1 rx) s = .refused .macRegisterWrite) ∧
    (0x350 ≤ ea.toNat → ea.toNat < 0x400 →
      exec (.sth r1 rx) s = .refused .macReserved ∧ exec (.lh r1 rx) s = .refused .macReserved)

/-- R465, R95, D14 (log 16): an operand whose translation fails. A store, of a byte, a halfword or a fullword,
changes no memory, but for the half a fullword stores before; after a load only x[R1] and the condition code
hold unspecified values. LM and STM: the transfers before stay (R161, R168), the registers from the faulting
one on are unspecified, and nothing is stored where every later store fails too. The cause is recorded and the
MAC interrupt is taken, or, if a machine malfunction is enabled and due, which has the higher rank (R458, in
the order that D23 chooses), waits for it. What the faulting instruction leaves (D14, log 16), that the
transfers of LM and STM before the fault stay (D29, log 30), the order of rank (D23, log 24), the wait bit of
the new PSW (D27, log 28) and the zeros and the ignored bits of PSW and location images (D6, D7, log 9) are
the spec's own choices. -/
def Obligations.OperandFaultTakesMac : Prop :=
  ∀ (s : State) (r1 : Reg) (rx : RxAddr) (cause : MacCause) (newPsw newPc : Word),
    let saved : Addr := match s.params.macSavedPc with
      | .next => nextAddr s.pc rx.length
      | .current => s.pc
    let ea := s.effAddr rx
    let first := evenAddr (programAddr ea)
    let place (k : Nat) : Addr := evenAddr (programAddr (ea + BitVec.ofNat 32 (4 * k)))
    let due : Prop := s.psw.m = true ∧ (s.pend.parityError = true ∨ s.pend.powerRestored = true ∨
      ∃ b, s.parityBreak = some b ∧ b.latched = true)
    let left : Addr := nextAddr s.pc rx.length
    let ends (u : State) (o : Out) : Prop :=
      (¬due → u.NewContext 0x90#20 0x94#20 newPsw newPc → o = .next (u.macTaken cause newPsw newPc saved)) ∧
      (due → o = .next (u.macHeld cause left))
    let stored (u : State) (i : Instr) : Prop := ends u (exec i s)
    let loaded (i : Instr) : Prop := ∃ (x : Word) (f : Flags) (k : Nat),
      ends { (s.setReg r1 x).setFlags f with freeIx := k } (exec i s)
    (translate .write first s = .error cause →
      stored s (.sth r1 rx) ∧ stored s (.stb r1 rx) ∧
      ((∃ c, translate .write (first + 2#20) s = .error c) → stored s (.st r1 rx))) ∧
    (∀ u : State, s.begin.storedAt first ((s.reg r1).extractLsb' 16 16) = some u →
      translate .write (first + 2#20) u = .error cause → stored u (.st r1 rx)) ∧
    (translate .read first s = .error cause →
      loaded (.lh r1 rx) ∧ loaded (.lhl r1 rx) ∧ loaded (.lb r1 rx) ∧ loaded (.l r1 rx)) ∧
    (∀ hi : Half, s.halfAt .read first = some hi → translate .read (first + 2#20) s = .error cause →
      loaded (.l r1 rx)) ∧
    (∀ (k : Nat) (w : Nat → Word), s.parityBreak = none → k < 16 - r1.toNat →
      (∀ j, j < k → s.dataFull (ea + BitVec.ofNat 32 (4 * j)) = some (w j)) →
      translate .read (place k) s = .error cause →
      ∃ u : State, ends u (exec (.lm r1 rx) s) ∧
        u = { s with regs := u.regs, freeIx := u.freeIx } ∧
        ∀ c x, ¬(c = s.psw.rs ∧ r1.toNat + k ≤ x.toNat) →
          u.regIn c x = if c = s.psw.rs ∧ r1.toNat ≤ x.toNat then w (x.toNat - r1.toNat)
            else s.regIn c x) ∧
    (∀ (k : Nat) (u : State), s.parityBreak = none → k < 16 - r1.toNat →
      State.storedFulls ((List.range k).map fun j => s.reg (BitVec.ofNat 4 (r1.toNat + j))) ea s.begin =
        some u →
      translate .write (place k) u = .error cause →
      (∀ j b : Nat, k ≤ j → j < 16 - r1.toNat → b < 2 →
        ∃ c, translate .write (place j + BitVec.ofNat 20 (2 * b)) u = .error c) →
      stored u (.stm r1 rx))

/-! ## Operands -/

/-- R116 to R119: the effective address of each form, modulo 2^32, with an index field of 0 adding nothing.
That it is computed in 32 bits is the spec's own choice (D3, log 8). -/
def Obligations.EffectiveAddress : Prop :=
  ∀ (s : State) (x2 x2p : Reg) (a14 : BitVec 14) (d15 : BitVec 15) (a24 : BitVec 24),
    let index (f : Reg) : Int := if f = 0#4 then 0 else (s.reg f).toInt
    s.effAddr (.rx1 x2 a14) = BitVec.ofInt 32 (a14.toNat + index x2) ∧
    s.effAddr (.rx2 x2 d15) = BitVec.ofInt 32 (d15.toInt + index x2 + (s.pc.toNat + 4)) ∧
    s.effAddr (.rx3 x2 x2p a24) = BitVec.ofInt 32 (a24.toNat + index x2 + index x2p)

/-! ## Load, store, exchange, copy -/

/-- R154 to R159, R163 to R165, R320: the loads that read no memory. -/
def Obligations.LoadWithoutMemory : Prop :=
  ∀ (s : State) (r1 r2 x2 : Reg) (n : Nib) (h : Half) (w : Word) (rx : RxAddr),
    exec (.lr r1 r2) s = .next (s.loaded r1 (s.reg r2) 2) ∧
    exec (.li r1 x2 w) s = .next (s.loaded r1 (w + s.idx x2) 6) ∧
    exec (.lhi r1 x2 h) s = .next (s.loaded r1 (BitVec.ofInt 32 (h.toInt + (s.idx x2).toInt)) 4) ∧
    exec (.lis r1 n) s = .next (s.loaded r1 (BitVec.ofNat 32 n.toNat) 2) ∧
    exec (.lcs r1 n) s = .next (s.loaded r1 (BitVec.ofInt 32 (-n.toNat)) 2) ∧
    exec (.la r1 rx) s = .next (s.loaded r1 (s.effAddr rx) rx.length) ∧
    exec (.lbr r1 r2) s = .next (s.loaded r1 (BitVec.ofNat 32 ((s.reg r2).toNat % 256)) 2) ∧
    exec (.lhr r1 r2) s =
      .next (s.loaded r1 (BitVec.ofInt 32 ((s.reg r2).setWidth 16 : Half).toInt) 2) ∧
    exec (.exhr r1 r2) s = .next (s.loaded r1 ((s.reg r2).rotateLeft 16) 2) ∧
    exec (.exbr r1 r2) s =
      .next (s.loaded r1 ((s.reg r1).extractLsb' 16 16 ++ (s.reg r2).extractLsb' 0 8 ++
        (s.reg r2).extractLsb' 8 8) 2)

/-- R152, R153, R160, R162: the loads from memory, wherever the operand can be read. In an access the low bit
of the address of a halfword or fullword is ignored (D2, log 7) and the address is used modulo 2^20 (D3, log
8), by the spec's own choice. -/
def Obligations.LoadFromMemory : Prop :=
  ∀ (s : State) (r1 : Reg) (rx : RxAddr) (w : Word) (h : Half) (b : Byte),
    (s.dataFull (s.effAddr rx) = some w →
      exec (.l r1 rx) s = .next (s.loaded r1 w rx.length)) ∧
    (s.dataHalf (s.effAddr rx) = some h →
      exec (.lh r1 rx) s = .next (s.loaded r1 (BitVec.ofInt 32 h.toInt) rx.length) ∧
      exec (.lhl r1 rx) s = .next (s.loaded r1 (BitVec.ofNat 32 h.toNat) rx.length)) ∧
    (s.dataByte (s.effAddr rx) = some b →
      exec (.lb r1 rx) s = .next (s.loaded r1 (BitVec.ofNat 32 b.toNat) rx.length))

/-- R161: LM loads registers R1 to 15 from successive fullwords; nothing else but the program counter
changes. A parity error on the k-th access, with psw.M = 1, abandons it: the registers already loaded keep
their new values and the others their old ones; where the program counter then stands is open (D29,
log 30). -/
def Obligations.LoadMultiple : Prop :=
  ∀ (s : State) (r1 : Reg) (rx : RxAddr) (w : Nat → Word) (n : Nat),
    (∀ k, k < n → s.dataFull (s.effAddr rx + BitVec.ofNat 32 (4 * k)) = some (w k)) →
    (n = 16 - r1.toNat → s.parityBreak = none ∨ s.psw.m = false →
      ∃ t, exec (.lm r1 rx) s = .next t ∧
        t = { s.begin with regs := t.regs, pc := nextAddr s.pc rx.length } ∧
        ∀ k r, t.regIn k r = if k = s.psw.rs ∧ r1.toNat ≤ r.toNat then w (r.toNat - r1.toNat)
          else s.regIn k r) ∧
    (∀ b : ParityBreak, n < 16 - r1.toNat → s.parityBreak = some b → b.transfers = n → s.psw.m = true →
      ∃ t, exec (.lm r1 rx) s = .next t ∧ (t.pc = s.pc ∨ t.pc = nextAddr s.pc rx.length) ∧
        t = { s.begin with regs := t.regs, pc := t.pc, freeIx := t.freeIx } ∧
        ∀ k r, t.regIn k r =
          if k = s.psw.rs ∧ r1.toNat ≤ r.toNat ∧ r.toNat < r1.toNat + n then w (r.toNat - r1.toNat)
          else s.regIn k r)

/-- R166 to R170: the stores, wherever the operand can be stored; no flag and no register changes, but STBR
writes the low byte of R2 and tests that byte. A parity error at the k-th store of STM, with psw.M = 1, leaves
the stores already made (R168, D29, log 30). In an access the low bit of the address of a halfword or fullword
is ignored (D2, log 7) and the address is used modulo 2^20 (D3, log 8), by the spec's own choice. -/
def Obligations.Store : Prop :=
  ∀ (s t : State) (r1 r2 : Reg) (rx : RxAddr) (h : Half),
    (s.begin.storedFull (s.effAddr rx) (s.reg r1) = some t →
      exec (.st r1 rx) s = .next (t.setPc (nextAddr s.pc rx.length))) ∧
    (s.begin.storedHalf (s.effAddr rx) ((s.reg r1).setWidth 16) = some t →
      exec (.sth r1 rx) s = .next (t.setPc (nextAddr s.pc rx.length))) ∧
    ((∀ pa, translate .write (evenAddr (programAddr (s.effAddr rx))) s = .ok pa →
        s.absHalf pa = some h) →
      s.begin.storedHalf (s.effAddr rx)
        (if (s.effAddr rx).getLsbD 0 then h.extractLsb' 8 8 ++ (s.reg r1).extractLsb' 0 8
        else (s.reg r1).extractLsb' 0 8 ++ h.extractLsb' 0 8) = some t →
      exec (.stb r1 rx) s = .next (t.setPc (nextAddr s.pc rx.length))) ∧
    (∀ n : Nat, State.storedFulls ((List.range n).map fun k => s.reg (BitVec.ofNat 4 (r1.toNat + k)))
        (s.effAddr rx) s.begin = some t →
      (n = 16 - r1.toNat → s.parityBreak = none ∨ s.psw.m = false →
        exec (.stm r1 rx) s = .next (t.setPc (nextAddr s.pc rx.length))) ∧
      ∀ b : ParityBreak, n < 16 - r1.toNat → s.parityBreak = some b → b.transfers = n → s.psw.m = true →
        exec (.stm r1 rx) s = .next (t.tick.setPc s.pc) ∨
        exec (.stm r1 rx) s = .next (t.tick.setPc (nextAddr s.pc rx.length))) ∧
    exec (.stbr r1 r2) s = .next
      (((s.begin.setReg r2 ((s.reg r2).extractLsb' 8 24 ++ (s.reg r1).extractLsb' 0 8)).tick.setFlags
        { c := s.freeBit, v := false, g := decide ((s.reg r1).toNat % 256 ≠ 0), l := false }).setPc
        (nextAddr s.pc 2))

/-- R71, R150, R166 to R169, R240, R247 to R249, R287, R288: the frame of what stores to main memory. The
address stored to is the translated effective address (for the bit instructions that of the bit's halfword);
every byte outside the stored ones and every register is as before, and the PSW, but for the condition code of
AM, AHM, TS, SBT, RBT and CBT. STB keeps the other byte of its halfword. In an access the low bit of the
address of a halfword or fullword is ignored (D2, log 7) and the address is used modulo 2^20 (D3, log 8), by
the spec's own choice; so is the place of the bit of a bit instruction (D40, log 40). -/
def Obligations.StoreFrame : Prop :=
  ∀ (s t : State) (r1 : Reg) (rx : RxAddr) (pa pb : Addr) (p : Nat → Addr),
    let ea := s.effAddr rx
    let place := ea + BitVec.ofNat 32 (2 * ((s.reg r1).toNat / 16))
    let outside (x : Nat) (a : Addr) : Prop := x ≠ evenBase a ∧ x ≠ evenBase a + 1
    let stored : Prop := t = { s.begin with mem := t.mem, pc := nextAddr s.pc rx.length }
    let flagged : Prop := s.OnlyRegs { t with mem := s.mem } []
    (s.StoresTo ea pa → exec (.sth r1 rx) s = .next t ∨ exec (.stb r1 rx) s = .next t →
      stored ∧ ∀ x, outside x pa → t.mem.read x = s.mem.read x) ∧
    (s.StoresTo ea pa → s.mem.wf = true → exec (.stb r1 rx) s = .next t →
      t.mem.read (if ea.getLsbD 0 then evenBase pa else evenBase pa + 1) =
        s.mem.read (if ea.getLsbD 0 then evenBase pa else evenBase pa + 1)) ∧
    (s.StoresTo ea pa → exec (.ahm r1 rx) s = .next t ∨ exec (.ts r1 rx) s = .next t →
      flagged ∧ ∀ x, outside x pa → t.mem.read x = s.mem.read x) ∧
    (s.StoresTo place pa → exec (.sbt r1 rx) s = .next t ∨ exec (.rbt r1 rx) s = .next t ∨
        exec (.cbt r1 rx) s = .next t →
      flagged ∧ ∀ x, outside x pa → t.mem.read x = s.mem.read x) ∧
    (s.StoresTo ea pa → translate .write (evenAddr (programAddr ea) + 2#20) s = .ok pb →
      isPlain s.params pb = true →
      (exec (.st r1 rx) s = .next t → stored) ∧ (exec (.am r1 rx) s = .next t → flagged) ∧
      (exec (.st r1 rx) s = .next t ∨ exec (.am r1 rx) s = .next t →
        ∀ x, outside x pa → outside x pb → t.mem.read x = s.mem.read x)) ∧
    ((∀ k, k < 2 * (16 - r1.toNat) →
        translate .write (evenAddr (programAddr (ea + BitVec.ofNat 32 (4 * (k / 2)))) +
          BitVec.ofNat 20 (2 * (k % 2))) s = .ok (p k) ∧ isPlain s.params (p k) = true) →
      exec (.stm r1 rx) s = .next t →
      flagged ∧ t.psw = s.psw ∧
        ∀ x, (∀ k, k < 2 * (16 - r1.toNat) → outside x (p k)) → t.mem.read x = s.mem.read x)

/-- R175: COPY moves n halfwords when no destination halfword is a source halfword and all of them and
the extra halfword before the source can be read or stored in main memory; x[R1], x[R1+1], x[R2] and
the condition code are left open, and nothing else changes. One whose x[R2] has low four bits other than 0,
or whose ranges overlap, is refused, as R175, U20 and D31 say. That the low bit of a block's address is
ignored, so that odd addresses are covered too, is the model's choice, which R175 leaves open (DESIGN
CHOICE, log 32). -/
def Obligations.CopyMoves : Prop :=
  ∀ (s : State) (r1 r2 : Reg) (n : Nat) (before : Half) (h : Nat → Half) (pa pb : Nat → Addr),
    let src (k : Nat) := s.reg r1 - BitVec.ofNat 32 (2 * (n - 1 - k))
    let dst (k : Nat) := s.reg (r1 + 1#4) - BitVec.ofNat 32 (2 * (n - 1 - k))
    s.params.microcode ≠ .belowS15 →
    ((s.reg r2).toNat % 16 ≠ 0 → exec (.copy r1 r2) s = .refused .copyLowBits) ∧
    ((s.reg r2).toNat = 16 * (n - 1) → 0 < n →
      (∃ j k, j < n ∧ k < n ∧ evenAddr (programAddr (src j)) = evenAddr (programAddr (dst k))) →
      exec (.copy r1 r2) s = .refused .copyOverlap) ∧
    (s.mem.wf = true → s.copyBreak = none → (s.reg r2).toNat = 16 * (n - 1) → 0 < n →
    s.dataHalf (src 0 - 2#32) = some before →
    (∀ k, k < n → s.dataHalf (src k) = some (h k) ∧
      translate .read (evenAddr (programAddr (src k))) s = .ok (pa k)) →
    (∀ k, k < n → s.StoresTo (dst k) (pb k)) →
    (∀ j k, j < n → k < n → pa j ≠ pb k) → (∀ j k, j < k → k < n → pb j ≠ pb k) →
    ∃ t, exec (.copy r1 r2) s = .next t ∧ (∀ k, k < n → t.mem.half (pb k) = h k) ∧
      (∀ x, (∀ k, k < n → x ≠ evenBase (pb k) ∧ x ≠ evenBase (pb k) + 1) →
        t.mem.read x = s.mem.read x) ∧
      t.pc = nextAddr s.pc 2 ∧ State.OnlyRegs s { t with mem := s.mem } [r1, r1 + 1#4, r2])

/-! ## Logical -/

/-- R201 to R215, R217, R218: and, or, exclusive or, wherever the operand can be read, and the test
instructions, which set only the condition code. -/
def Obligations.Logical : Prop :=
  ∀ (s : State) (r1 r2 x2 : Reg) (rx : RxAddr) (i16 : Half) (i32 w : Word) (h : Half),
    (exec (.nr r1 r2) s = .next (s.loaded r1 (s.reg r1 &&& s.reg r2) 2) ∧
      exec (.or r1 r2) s = .next (s.loaded r1 (s.reg r1 ||| s.reg r2) 2) ∧
      exec (.xr r1 r2) s = .next (s.loaded r1 (s.reg r1 ^^^ s.reg r2) 2)) ∧
    (exec (.ni r1 x2 i32) s = .next (s.loaded r1 (s.reg r1 &&& (i32 + s.idx x2)) 6) ∧
      exec (.oi r1 x2 i32) s = .next (s.loaded r1 (s.reg r1 ||| (i32 + s.idx x2)) 6) ∧
      exec (.xi r1 x2 i32) s = .next (s.loaded r1 (s.reg r1 ^^^ (i32 + s.idx x2)) 6)) ∧
    (exec (.nhi r1 x2 i16) s = .next (s.loaded r1 (s.reg r1 &&& (i16.signExtend 32 + s.idx x2)) 4) ∧
      exec (.ohi r1 x2 i16) s = .next (s.loaded r1 (s.reg r1 ||| (i16.signExtend 32 + s.idx x2)) 4) ∧
      exec (.xhi r1 x2 i16) s =
        .next (s.loaded r1 (s.reg r1 ^^^ (i16.signExtend 32 + s.idx x2)) 4)) ∧
    (s.dataFull (s.effAddr rx) = some w →
      exec (.n r1 rx) s = .next (s.loaded r1 (s.reg r1 &&& w) rx.length) ∧
      exec (.o r1 rx) s = .next (s.loaded r1 (s.reg r1 ||| w) rx.length) ∧
      exec (.x r1 rx) s = .next (s.loaded r1 (s.reg r1 ^^^ w) rx.length)) ∧
    (s.dataHalf (s.effAddr rx) = some h →
      exec (.nh r1 rx) s = .next (s.loaded r1 (s.reg r1 &&& h.signExtend 32) rx.length) ∧
      exec (.oh r1 rx) s = .next (s.loaded r1 (s.reg r1 ||| h.signExtend 32) rx.length) ∧
      exec (.xh r1 rx) s = .next (s.loaded r1 (s.reg r1 ^^^ h.signExtend 32) rx.length)) ∧
    exec (.ti r1 x2 i32) s =
      .next (s.tick.compared s.freeBit (s.reg r1 &&& (i32 + s.idx x2)).toInt 6) ∧
    exec (.thi r1 x2 i16) s =
      .next (s.tick.compared s.freeBit (s.reg r1 &&& (i16.signExtend 32 + s.idx x2)).toInt 4)

/-- R216: ARAND of nbits = x[R2] + 1 (modulo 2^32) bits finds the leftmost common bit of the highest halfword
that has one, and returns normally with its number in x[R2], if that is no register which is then left
unspecified; with no common bit it skips. Memory is unchanged. A number of bits that is no multiple of 16 is
refused, as R216, U20 and D31 say. The model's choices, where R216 leaves the point open: the low bit of a
halfword's address is ignored, the number of bits is taken modulo 2^32, so that x[R2] = 0xFFFFFFFF finds
nothing and skips, and the search runs to its end in one step, without being interrupted (DESIGN CHOICE, log
32). R1+1 modulo 16 is the spec's own choice (D16, log 18). -/
def Obligations.ArrayAnd : Prop :=
  ∀ (s : State) (r1 r2 : Reg), s.params.microcode ≠ .belowS15 →
    let only (t : State) : Prop := s.OnlyRegs t [r1, r1 + 1#4, r2]
    (∀ (n : Nat) (a b : Nat → Half), (s.reg r2 + 1#32).toNat = 16 * n →
      (∀ j, j < n → s.dataHalf (s.reg r1 - BitVec.ofNat 32 (2 * (n - 1 - j))) = some (a j) ∧
        s.dataHalf (s.reg (r1 + 1#4) - BitVec.ofNat 32 (2 * (n - 1 - j))) = some (b j)) →
      (∀ j k, j < n → k < 16 → (∀ i, j < i → i < n → a i &&& b i = 0#16) →
        (a j &&& b j).getMsbD k = true → (∀ i, i < k → (a j &&& b j).getMsbD i = false) →
        ∃ t, exec (.arand r1 r2) s = .next t ∧ t.pc = nextAddr s.pc 2 ∧
          (r2 ≠ r1 → r2 ≠ r1 + 1#4 → t.reg r2 = BitVec.ofNat 32 (16 * j + k)) ∧ only t) ∧
      ((∀ j, j < n → a j &&& b j = 0#16) →
        ∃ t, exec (.arand r1 r2) s = .next t ∧ t.pc = nextAddr s.pc 4 ∧ only t)) ∧
    ((s.reg r2 + 1#32).toNat % 16 ≠ 0 → exec (.arand r1 r2) s = .refused .arandPartialHalfword)

/-! ## Shifts, rotates, bits -/

/-- R220 to R224, R229, R230, R319: the fullword shifts and the rotates in closed form; n is the low
seven bits of the effective address, or N. The condition code of SLL, SLLS, SRL and SRLS and the free
carry of a rotate and of a shift by 0 are the spec's own choice (D9, log 11), and so are the RX2 and RX3
forms (D11, log 13). -/
def Obligations.ShiftFullword : Prop :=
  ∀ (s : State) (r1 : Reg) (rx : RxAddr) (n : Nib),
    let x := s.reg r1
    let c := (s.effAddr rx).toNat % 128
    let arith := if c ≤ 32 then x.getLsbD (c - 1) else x.msb
    exec (.sll r1 rx) s =
      .next (s.shifted r1 c (x <<< c) (x.getMsbD (c - 1)) (x <<< c).toInt rx.length) ∧
    exec (.slls r1 n) s =
      .next (s.shifted r1 n.toNat (x <<< n.toNat) (x.getMsbD (n.toNat - 1)) (x <<< n.toNat).toInt 2) ∧
    exec (.srl r1 rx) s =
      .next (s.shifted r1 c (x >>> c) (x.getLsbD (c - 1)) (x >>> c).toInt rx.length) ∧
    exec (.srls r1 n) s =
      .next (s.shifted r1 n.toNat (x >>> n.toNat) (x.getLsbD (n.toNat - 1)) (x >>> n.toNat).toInt 2) ∧
    exec (.sra r1 rx) s =
      .next (s.shifted r1 c (x.sshiftRight c) arith (x.sshiftRight c).toInt rx.length) ∧
    exec (.rll r1 rx) s = .next (s.loaded r1 (x.rotateLeft c) rx.length) ∧
    exec (.rrl r1 rx) s = .next (s.loaded r1 (x.rotateRight c) rx.length)

/-- R225 to R228: the halfword shifts in closed form; bits 0:15 of the register stay, and `HALFSHIFT_CC_WIDTH`
says what G and L test. That the carry of a shift by 0 is free (D9, log 11), and that the RX2 and RX3 forms
shift as RX1 does (D11, log 13), are the spec's own choices. HALFSHIFT_CC_WIDTH is an open parameter (D10, log
12). -/
def Obligations.ShiftHalfword : Prop :=
  ∀ (s : State) (r1 : Reg) (rx : RxAddr) (n : Nib),
    let upper : Half := (s.reg r1).extractLsb' 16 16
    let h : Half := (s.reg r1).setWidth 16
    let c := (s.effAddr rx).toNat % 128
    exec (.slhl r1 rx) s =
      .next (s.shifted r1 c (upper ++ h <<< c) (h.getMsbD (c - 1))
        (s.halfTested (h <<< c) (upper ++ h <<< c)) rx.length) ∧
    exec (.slhls r1 n) s =
      .next (s.shifted r1 n.toNat (upper ++ h <<< n.toNat) (h.getMsbD (n.toNat - 1))
        (s.halfTested (h <<< n.toNat) (upper ++ h <<< n.toNat)) 2) ∧
    exec (.srhl r1 rx) s =
      .next (s.shifted r1 c (upper ++ h >>> c) (h.getLsbD (c - 1))
        (s.halfTested (h >>> c) (upper ++ h >>> c)) rx.length) ∧
    exec (.srhls r1 n) s =
      .next (s.shifted r1 n.toNat (upper ++ h >>> n.toNat) (h.getLsbD (n.toNat - 1))
        (s.halfTested (h >>> n.toNat) (upper ++ h >>> n.toNat)) 2)

/-- R240: TS leaves 0xFFFF in the halfword and says what it held. That its R1 field is ignored is the spec's
own choice (D28, log 29). -/
def Obligations.TestAndSet : Prop :=
  ∀ (s t : State) (r1 : Reg) (rx : RxAddr) (pa : Addr) (h : Half),
    translate .write (evenAddr (programAddr (s.effAddr rx))) s = .ok pa → s.absHalf pa = some h →
    s.begin.storedAbs pa 0xFFFF#16 = some t →
    exec (.ts r1 rx) s =
      .next ((t.tick.setFlags (ccOf s.freeBit h.toInt)).setPc (nextAddr s.pc rx.length))

/-- R245 to R249: the bit instructions: the bit is bit d mod 16 from the left of the halfword at
EA + 2 (d div 16); G says what it was; SBT, RBT and CBT set, reset and complement it. That place, with d
unsigned of 32 bits and the low bit of EA ignored, is the spec's own inference and choice (D40; DESIGN CHOICE,
log 40). -/
def Obligations.BitInstructions : Prop :=
  ∀ (s t : State) (r1 : Reg) (rx : RxAddr) (h : Half),
    let d := (s.reg r1).toNat
    let place := s.effAddr rx + BitVec.ofNat 32 (2 * (d / 16))
    let mask : Half := 0x8000#16 >>> (d % 16)
    let cc : Flags := { c := s.freeBit, v := false, g := h.getMsbD (d % 16), l := false }
    s.dataHalf place = some h →
    exec (.tbt r1 rx) s = .next ((s.begin.tick.setFlags cc).setPc (nextAddr s.pc rx.length)) ∧
    (s.begin.storedHalf place (h ||| mask) = some t →
      exec (.sbt r1 rx) s = .next ((t.tick.setFlags cc).setPc (nextAddr s.pc rx.length))) ∧
    (s.begin.storedHalf place (h &&& ~~~mask) = some t →
      exec (.rbt r1 rx) s = .next ((t.tick.setFlags cc).setPc (nextAddr s.pc rx.length))) ∧
    (s.begin.storedHalf place (h ^^^ mask) = some t →
      exec (.cbt r1 rx) s = .next ((t.tick.setFlags cc).setPc (nextAddr s.pc rx.length)))

/-! ## Jumps -/

/-- R260 to R268, R274: the jumps on condition. The target is taken modulo 2^20 (D3, log 8) and an odd one
refused (D18, log 20) by the spec's own choice. -/
def Obligations.JumpOnCondition : Prop :=
  ∀ (mask n : Nib) (r2 : Reg) (rx : RxAddr),
    let true_ (s : State) : Bool := s.maskedCc mask != 0#16
    let false_ (s : State) : Bool := s.maskedCc mask == 0#16
    JumpsWhen (.jt mask rx) true_ (fun s => (s.effAddr rx).setWidth 20) ∧
    JumpsWhen (.jf mask rx) false_ (fun s => (s.effAddr rx).setWidth 20) ∧
    JumpsWhen (.jtr mask r2) true_ (fun s => (s.reg r2).setWidth 20) ∧
    JumpsWhen (.jfr mask r2) false_ (fun s => (s.reg r2).setWidth 20) ∧
    JumpsWhen (.jtbs mask n) true_ (fun s => s.pc - BitVec.ofNat 20 (2 * n.toNat)) ∧
    JumpsWhen (.jtfs mask n) true_ (fun s => s.pc + BitVec.ofNat 20 (2 * n.toNat)) ∧
    JumpsWhen (.jfbs mask n) false_ (fun s => s.pc - BitVec.ofNat 20 (2 * n.toNat)) ∧
    JumpsWhen (.jffs mask n) false_ (fun s => s.pc + BitVec.ofNat 20 (2 * n.toNat))

/-- R269: the extended mnemonics with RX and RR operands, by the flags they name. The target is taken modulo
2^20 (D3, log 8) and an odd one refused (D18, log 20) by the spec's own choice. -/
def Obligations.ExtendedJumps : Prop :=
  ∀ (rx : RxAddr) (r2 : Reg),
    let far (s : State) : Addr := (s.effAddr rx).setWidth 20
    let reg (s : State) : Addr := (s.reg r2).setWidth 20
    (JumpsWhen (.nop rx) (fun _ => false) far ∧ JumpsWhen (.nopr r2) (fun _ => false) reg) ∧
    (JumpsWhen (.j rx) (fun _ => true) far ∧ JumpsWhen (.jr r2) (fun _ => true) reg) ∧
    (JumpsWhen (.je rx) (fun s => !s.psw.g && !s.psw.l) far ∧
      JumpsWhen (.jer r2) (fun s => !s.psw.g && !s.psw.l) reg) ∧
    (JumpsWhen (.jn rx) (fun s => s.psw.g || s.psw.l) far ∧
      JumpsWhen (.jnr r2) (fun s => s.psw.g || s.psw.l) reg) ∧
    (JumpsWhen (.jg rx) (fun s => s.psw.g) far ∧ JumpsWhen (.jgr r2) (fun s => s.psw.g) reg) ∧
    (JumpsWhen (.jge rx) (fun s => !s.psw.l) far ∧ JumpsWhen (.jger r2) (fun s => !s.psw.l) reg) ∧
    (JumpsWhen (.jle rx) (fun s => !s.psw.g) far ∧ JumpsWhen (.jler r2) (fun s => !s.psw.g) reg) ∧
    (JumpsWhen (.jl rx) (fun s => s.psw.l) far ∧ JumpsWhen (.jlr r2) (fun s => s.psw.l) reg) ∧
    (JumpsWhen (.jc rx) (fun s => s.psw.c) far ∧ JumpsWhen (.jcr r2) (fun s => s.psw.c) reg) ∧
    (JumpsWhen (.jnc rx) (fun s => !s.psw.c) far ∧ JumpsWhen (.jncr r2) (fun s => !s.psw.c) reg)

/-- R269: the extended mnemonics of the short jumps, backward and forward, by the flags they name. The target
is taken modulo 2^20 (D3, log 8) and an odd one refused (D18, log 20) by the spec's own choice. -/
def Obligations.ExtendedShortJumps : Prop :=
  ∀ n : Nib,
    let back (s : State) : Addr := s.pc - BitVec.ofNat 20 (2 * n.toNat)
    let forth (s : State) : Addr := s.pc + BitVec.ofNat 20 (2 * n.toNat)
    (JumpsWhen (.jbs n) (fun _ => true) back ∧ JumpsWhen (.jfs n) (fun _ => true) forth) ∧
    (JumpsWhen (.jebs n) (fun s => !s.psw.g && !s.psw.l) back ∧
      JumpsWhen (.jefs n) (fun s => !s.psw.g && !s.psw.l) forth) ∧
    (JumpsWhen (.jnbs n) (fun s => s.psw.g || s.psw.l) back ∧
      JumpsWhen (.jnfs n) (fun s => s.psw.g || s.psw.l) forth) ∧
    (JumpsWhen (.jgbs n) (fun s => s.psw.g) back ∧ JumpsWhen (.jgfs n) (fun s => s.psw.g) forth) ∧
    (JumpsWhen (.jgebs n) (fun s => !s.psw.l) back ∧
      JumpsWhen (.jgefs n) (fun s => !s.psw.l) forth) ∧
    (JumpsWhen (.jlebs n) (fun s => !s.psw.g) back ∧
      JumpsWhen (.jlefs n) (fun s => !s.psw.g) forth) ∧
    (JumpsWhen (.jlbs n) (fun s => s.psw.l) back ∧ JumpsWhen (.jlfs n) (fun s => s.psw.l) forth) ∧
    (JumpsWhen (.jcbs n) (fun s => s.psw.c) back ∧ JumpsWhen (.jcfs n) (fun s => s.psw.c) forth) ∧
    (JumpsWhen (.jncbs n) (fun s => !s.psw.c) back ∧
      JumpsWhen (.jncfs n) (fun s => !s.psw.c) forth)

/-- R270, R271, R274: JAL and JALR: the target is obtained before the link register is written; an odd target
is refused (D18, log 20). The target modulo 2^20 (D3, log 8), the zeros of the link's upper bits (D7, log 9)
and the refusal of an odd target (D18, log 20) are the spec's own choices. -/
def Obligations.JumpAndLink : Prop :=
  ∀ (s : State) (r1 r2 : Reg) (rx : RxAddr), s.psw.t = false →
    ((s.effAddr rx).getLsbD 0 = false →
      exec (.jal r1 rx) s =
        .next ((s.begin.setReg r1 (BitVec.ofNat 32 (nextAddr s.pc rx.length).toNat)).setPc
          ((s.effAddr rx).setWidth 20))) ∧
    ((s.effAddr rx).getLsbD 0 = true → exec (.jal r1 rx) s = .refused .oddProgramCounter) ∧
    ((s.reg r2).getLsbD 0 = false →
      exec (.jalr r1 r2) s =
        .next ((s.begin.setReg r1 (BitVec.ofNat 32 (nextAddr s.pc 2).toNat)).setPc
          ((s.reg r2).setWidth 20))) ∧
    ((s.reg r2).getLsbD 0 = true → exec (.jalr r1 r2) s = .refused .oddProgramCounter)

/-- R272, R273: JFFO and JFFOH: of a zero, the next instruction; else the number of the leftmost 1 goes to
register R1+1 and the jump is taken. R1+1 modulo 16 (D16, log 18) and the target modulo 2^20 (D3, log 8) are
the spec's own choices. -/
def Obligations.JumpFirstOne : Prop :=
  ∀ (s : State) (r1 : Reg) (n : Nib), s.psw.t = false → s.pc.getLsbD 0 = false →
    let h : Half := (s.reg r1).setWidth 16
    let target := s.pc + BitVec.ofNat 20 (2 * n.toNat)
    (s.reg r1 = 0#32 → exec (.jffo r1 n) s = .next (s.begin.setPc (nextAddr s.pc 2))) ∧
    (∀ k, (s.reg r1).getMsbD k = true → (∀ j, j < k → (s.reg r1).getMsbD j = false) →
      exec (.jffo r1 n) s = .next ((s.begin.setReg (r1 + 1#4) (BitVec.ofNat 32 k)).setPc target)) ∧
    (h = 0#16 → exec (.jffoh r1 n) s = .next (s.begin.setPc (nextAddr s.pc 2))) ∧
    (∀ k, h.getMsbD k = true → (∀ j, j < k → h.getMsbD j = false) →
      exec (.jffoh r1 n) s = .next ((s.begin.setReg (r1 + 1#4) (BitVec.ofNat 32 k)).setPc target))

/-- R485, R274: with psw.T = 1 a taken jump stores its target at 0x14 and the PSW at 0x10, turns T off and
goes to the location at 0x18; a link or count register is written before; a jump that is not taken goes on,
and an odd target is refused (D18, log 20). Which instructions trap is the spec's own choice (D17, log 19). So
are R1+1 modulo 16 (D16, log 18), the refusal of an odd target and the zeros and the ignored bits of PSW and
location images (D6, D7, log 9). -/
def Obligations.TraceTrap : Prop :=
  ∀ (s : State) (mask n : Nib) (r1 r2 : Reg) (rx : RxAddr), s.psw.t = true →
    (s.psw.meets mask = true →
      TrapsFrom (.jt mask rx) s s.begin (s.targetRx rx) ∧
      TrapsFrom (.jtr mask r2) s s.begin (s.targetReg r2) ∧
      TrapsFrom (.jtbs mask n) s s.begin (s.targetBackward n) ∧
      TrapsFrom (.jtfs mask n) s s.begin (s.targetForward n)) ∧
    (s.psw.meets mask = false →
      TrapsFrom (.jf mask rx) s s.begin (s.targetRx rx) ∧
      TrapsFrom (.jfr mask r2) s s.begin (s.targetReg r2) ∧
      TrapsFrom (.jfbs mask n) s s.begin (s.targetBackward n) ∧
      TrapsFrom (.jffs mask n) s s.begin (s.targetForward n)) ∧
    TrapsFrom (.jal r1 rx) s (s.begin.setReg r1 (pcImage (nextAddr s.pc rx.length)))
      (s.targetRx rx) ∧
    TrapsFrom (.jalr r1 r2) s (s.begin.setReg r1 (pcImage (nextAddr s.pc 2))) (s.targetReg r2) ∧
    TrapsFrom (.j rx) s s.begin (s.targetRx rx) ∧ TrapsFrom (.jr r2) s s.begin (s.targetReg r2) ∧
    (let q := s.psw
    (∀ p ∈ [(Instr.je rx, !q.g && !q.l), (.jn rx, q.g || q.l), (.jg rx, q.g), (.jge rx, !q.l),
        (.jle rx, !q.g), (.jl rx, q.l), (.jc rx, q.c), (.jnc rx, !q.c)],
      p.2 = true → TrapsFrom p.1 s s.begin (s.targetRx rx)) ∧
    (∀ p ∈ [(Instr.jer r2, !q.g && !q.l), (.jnr r2, q.g || q.l), (.jgr r2, q.g), (.jger r2, !q.l),
        (.jler r2, !q.g), (.jlr r2, q.l), (.jcr r2, q.c), (.jncr r2, !q.c)],
      p.2 = true → TrapsFrom p.1 s s.begin (s.targetReg r2)) ∧
    (∀ p ∈ [(Instr.jbs n, true), (.jebs n, !q.g && !q.l), (.jnbs n, q.g || q.l), (.jgbs n, q.g),
        (.jgebs n, !q.l), (.jlebs n, !q.g), (.jlbs n, q.l), (.jcbs n, q.c), (.jncbs n, !q.c)],
      p.2 = true → TrapsFrom p.1 s s.begin (s.targetBackward n)) ∧
    (∀ p ∈ [(Instr.jfs n, true), (.jefs n, !q.g && !q.l), (.jnfs n, q.g || q.l), (.jgfs n, q.g),
        (.jgefs n, !q.l), (.jlefs n, !q.g), (.jlfs n, q.l), (.jcfs n, q.c), (.jncfs n, !q.c)],
      p.2 = true → TrapsFrom p.1 s s.begin (s.targetForward n))) ∧
    (∀ k, (s.reg r1).getMsbD k = true → (∀ j, j < k → (s.reg r1).getMsbD j = false) →
      TrapsFrom (.jffo r1 n) s (s.begin.setReg (r1 + 1#4) (BitVec.ofNat 32 k)) (s.targetForward n)) ∧
    (∀ k, ((s.reg r1).setWidth 16 : Half).getMsbD k = true →
      (∀ j, j < k → ((s.reg r1).setWidth 16 : Half).getMsbD j = false) →
      TrapsFrom (.jffoh r1 n) s (s.begin.setReg (r1 + 1#4) (BitVec.ofNat 32 k)) (s.targetForward n)) ∧
    (s.reg r1 = 0#32 → exec (.jffo r1 n) s = .next (s.begin.setPc (nextAddr s.pc 2))) ∧
    (((s.reg r1).setWidth 16 : Half) = 0#16 →
      exec (.jffoh r1 n) s = .next (s.begin.setPc (nextAddr s.pc 2)))

/-! ## Arithmetic -/

/-- R280 to R286: the additions; C is the carry out of 32 bits. -/
def Obligations.AddResult : Prop :=
  ∀ (s : State) (r1 r2 x2 : Reg) (n : Nib) (rx : RxAddr) (i16 : Half) (i32 w : Word) (h : Half),
    let sum (v : Word) (len : Nat) : State :=
      s.computed r1 (BitVec.ofNat 32 ((s.reg r1).toNat + v.toNat))
        (decide (2 ^ 32 ≤ (s.reg r1).toNat + v.toNat)) len
    exec (.ar r1 r2) s = .next (sum (s.reg r2) 2) ∧
    exec (.ais r1 n) s = .next (sum (BitVec.ofNat 32 n.toNat) 2) ∧
    exec (.ai r1 x2 i32) s = .next (sum (i32 + s.idx x2) 6) ∧
    exec (.ahi r1 x2 i16) s = .next (sum (i16.signExtend 32 + s.idx x2) 4) ∧
    (s.dataFull (s.effAddr rx) = some w → exec (.a r1 rx) s = .next (sum w rx.length)) ∧
    (s.dataHalf (s.effAddr rx) = some h →
      exec (.ah r1 rx) s = .next (sum (h.signExtend 32) rx.length))

/-- R289 to R295: the subtractions; C is 1 when there is no borrow. -/
def Obligations.Subtract : Prop :=
  ∀ (s : State) (r1 r2 x2 : Reg) (n : Nib) (rx : RxAddr) (i16 : Half) (i32 w : Word) (h : Half),
    let difference (v : Word) (len : Nat) : State :=
      s.computed r1 (BitVec.ofInt 32 ((s.reg r1).toInt - v.toInt))
        (decide (v.toNat ≤ (s.reg r1).toNat)) len
    exec (.sr r1 r2) s = .next (difference (s.reg r2) 2) ∧
    exec (.sis r1 n) s = .next (difference (BitVec.ofNat 32 n.toNat) 2) ∧
    exec (.si r1 x2 i32) s = .next (difference (i32 + s.idx x2) 6) ∧
    exec (.shi r1 x2 i16) s = .next (difference (i16.signExtend 32 + s.idx x2) 4) ∧
    (s.dataFull (s.effAddr rx) = some w → exec (.s r1 rx) s = .next (difference w rx.length)) ∧
    (s.dataHalf (s.effAddr rx) = some h →
      exec (.sh r1 rx) s = .next (difference (h.signExtend 32) rx.length))

/-- R296 to R308: the logical comparisons: C says the unsigned order, G and L the sign of the wrapped
difference; CLB compares two bytes and leaves C unspecified. The algebraic ones: G and L say the true
signed order, C is unspecified. -/
def Obligations.Compare : Prop :=
  ∀ (s : State) (r1 r2 x2 : Reg) (rx : RxAddr) (i16 : Half) (i32 w : Word) (h : Half) (b : Byte),
    let logical (v : Word) (len : Nat) : State :=
      s.compared (decide (v.toNat ≤ (s.reg r1).toNat)) (s.reg r1 - v).toInt len
    let signed (v : Word) (len : Nat) : State :=
      s.tick.compared s.freeBit ((s.reg r1).toInt - v.toInt) len
    (exec (.clr r1 r2) s = .next (logical (s.reg r2) 2) ∧
      exec (.cr r1 r2) s = .next (signed (s.reg r2) 2)) ∧
    (exec (.cli r1 x2 i32) s = .next (logical (i32 + s.idx x2) 6) ∧
      exec (.ci r1 x2 i32) s = .next (signed (i32 + s.idx x2) 6)) ∧
    (exec (.clhi r1 x2 i16) s = .next (logical (i16.signExtend 32 + s.idx x2) 4) ∧
      exec (.chi r1 x2 i16) s = .next (signed (i16.signExtend 32 + s.idx x2) 4)) ∧
    (s.dataFull (s.effAddr rx) = some w →
      exec (.cl r1 rx) s = .next (logical w rx.length) ∧
      exec (.c r1 rx) s = .next (signed w rx.length)) ∧
    (s.dataHalf (s.effAddr rx) = some h →
      exec (.clh r1 rx) s = .next (logical (h.signExtend 32) rx.length) ∧
      exec (.ch r1 rx) s = .next (signed (h.signExtend 32) rx.length)) ∧
    (s.dataByte (s.effAddr rx) = some b →
      exec (.clb r1 rx) s =
        .next (s.tick.compared s.freeBit (((s.reg r1).toNat % 256 : Nat) - (b.toNat : Int)) rx.length))

/-- R287, R288: AM and AHM: the sum goes to memory; the condition code is that of the 32-bit sum, for
AHM too; x[R1] is unchanged. -/
def Obligations.AddToMemory : Prop :=
  ∀ (s t : State) (r1 : Reg) (rx : RxAddr) (w : Word) (h : Half),
    let x := (s.reg r1).toNat
    let y := (h.signExtend 32 : Word).toNat
    let full : Word := BitVec.ofNat 32 (x + w.toNat)
    let half : Word := BitVec.ofNat 32 (x + y)
    (s.dataFull (s.effAddr rx) = some w → s.begin.storedFull (s.effAddr rx) full = some t →
      exec (.am r1 rx) s = .next ((t.setFlags (ccOf (decide (2 ^ 32 ≤ x + w.toNat)) full.toInt)).setPc
        (nextAddr s.pc rx.length))) ∧
    (s.dataHalf (s.effAddr rx) = some h →
      (s.begin.setFlags (ccOf (decide (2 ^ 32 ≤ x + y)) half.toInt)).storedHalf (s.effAddr rx)
        (half.setWidth 16) = some t →
      exec (.ahm r1 rx) s = .next (t.setPc (nextAddr s.pc rx.length)))

/-- R309 to R313: the multiplications are unsigned and leave the condition code alone. That MH and MHR take
two unsigned halfwords is the spec's own choice (D26; DESIGN CHOICE, log 27), unsafe if wrong. -/
def Obligations.Multiply : Prop :=
  ∀ (s : State) (r1 r2 : Reg) (rx : RxAddr) (w : Word) (h : Half),
    let pair (v : Word) (len : Nat) : State :=
      ((s.begin.setReg r1 (BitVec.ofNat 32 ((s.reg (r1 + 1#4)).toNat * v.toNat / 2 ^ 32))).setReg
        (r1 + 1#4) (BitVec.ofNat 32 ((s.reg (r1 + 1#4)).toNat * v.toNat))).setPc (nextAddr s.pc len)
    let halves (v : Nat) (len : Nat) : State :=
      (s.begin.setReg r1 (BitVec.ofNat 32 ((s.reg r1).toNat % 65536 * v))).setPc (nextAddr s.pc len)
    exec (.mr r1 r2) s = .next (pair (s.reg r2) 2) ∧
    exec (.mhr r1 r2) s = .next (halves ((s.reg r2).toNat % 65536) 2) ∧
    (s.dataFull (s.effAddr rx) = some w → exec (.m r1 rx) s = .next (pair w rx.length)) ∧
    (s.dataHalf (s.effAddr rx) = some h → exec (.mh r1 rx) s = .next (halves h.toNat rx.length))

/-- R315 to R318: a division whose quotient fits: x[R1] takes the remainder, x[R1+1] the quotient, in a
halfword division sign-extended from 16 bits; the condition code is unchanged. That DH and DHR divide unsigned
and sign-extend the quotient and the remainder is the spec's own choice (D26; DESIGN CHOICE, log 27), unsafe
if wrong. -/
def Obligations.Divide : Prop :=
  ∀ (s : State) (r1 r2 : Reg) (rx : RxAddr) (w : Word) (h : Half) (q r : Nat),
    let n := (s.reg r1).toNat * 2 ^ 32 + (s.reg (r1 + 1#4)).toNat
    let full (len : Nat) : State :=
      ((s.begin.setReg r1 (BitVec.ofNat 32 r)).setReg (r1 + 1#4) (BitVec.ofNat 32 q)).setPc
        (nextAddr s.pc len)
    let half (len : Nat) : State :=
      ((s.begin.setReg r1 ((BitVec.ofNat 16 r).signExtend 32)).setReg (r1 + 1#4)
        ((BitVec.ofNat 16 q).signExtend 32)).setPc (nextAddr s.pc len)
    (q < 2 ^ 32 → n = q * w.toNat + r → r < w.toNat →
      (s.reg r2 = w → exec (.dr r1 r2) s = .next (full 2)) ∧
      (s.dataFull (s.effAddr rx) = some w → exec (.d r1 rx) s = .next (full rx.length))) ∧
    (q < 2 ^ 16 → (s.reg r1).toNat = q * h.toNat + r → r < h.toNat →
      ((s.reg r2).setWidth 16 = h → exec (.dhr r1 r2) s = .next (half 2)) ∧
      (s.dataHalf (s.effAddr rx) = some h → exec (.dh r1 rx) s = .next (half rx.length)))

/-- R314, D15: a zero divisor or a quotient that does not fit is no trap: both result registers hold
unspecified values, nothing else changes and execution goes on. That there is no trap and both results are
unspecified (D15, log 17), and that DH and DHR are unsigned (D26, log 27), are the spec's own choices. -/
def Obligations.DivideOpen : Prop :=
  ∀ (s : State) (r1 r2 : Reg) (rx : RxAddr) (w : Word) (h : Half),
    let n := (s.reg r1).toNat * 2 ^ 32 + (s.reg (r1 + 1#4)).toNat
    let open_ (i : Instr) : Prop :=
      ∃ a b : Word, exec i s =
        .next (((s.begin.tick.tick.setReg r1 a).setReg (r1 + 1#4) b).setPc (nextAddr s.pc i.length))
    (s.reg r2 = 0#32 ∨ 2 ^ 32 * (s.reg r2).toNat ≤ n → open_ (.dr r1 r2)) ∧
    (s.dataFull (s.effAddr rx) = some w → w = 0#32 ∨ 2 ^ 32 * w.toNat ≤ n → open_ (.d r1 rx)) ∧
    ((s.reg r2).toNat % 65536 = 0 ∨
      65536 * ((s.reg r2).toNat % 65536) ≤ (s.reg r1).toNat → open_ (.dhr r1 r2)) ∧
    (s.dataHalf (s.effAddr rx) = some h → h = 0#16 ∨ 65536 * h.toNat ≤ (s.reg r1).toNat →
      open_ (.dh r1 rx))

/-- The frame of the register instructions (R41, R150, R280, R309): no memory, no register but the
destination, of the PSW only the condition code; comparisons, tests and LIS to LA alike. -/
def Obligations.RegisterFrame : Prop :=
  ∀ (s t : State) (r1 r2 x2 : Reg) (n : Nib) (i16 : Half) (i32 : Word) (rx : RxAddr),
    (∀ i ∈ [Instr.lr r1 r2, .li r1 x2 i32, .lhi r1 x2 i16, .lis r1 n, .lcs r1 n, .la r1 rx, .lbr r1 r2,
        .lhr r1 r2, .exhr r1 r2, .exbr r1 r2, .nr r1 r2, .or r1 r2, .xr r1 r2, .ni r1 x2 i32,
        .oi r1 x2 i32, .xi r1 x2 i32, .nhi r1 x2 i16, .ohi r1 x2 i16, .xhi r1 x2 i16, .ar r1 r2,
        .ais r1 n, .ai r1 x2 i32, .ahi r1 x2 i16, .sr r1 r2, .sis r1 n, .si r1 x2 i32, .shi r1 x2 i16,
        .mhr r1 r2, .sll r1 rx, .srl r1 rx, .sra r1 rx, .slhl r1 rx, .srhl r1 rx, .rll r1 rx, .rrl r1 rx,
        .slls r1 n, .srls r1 n, .slhls r1 n, .srhls r1 n],
      exec i s = .next t → s.OnlyRegs t [r1]) ∧
    (∀ i ∈ [Instr.clr r1 r2, .cr r1 r2, .cli r1 x2 i32, .clhi r1 x2 i16, .ci r1 x2 i32, .chi r1 x2 i16,
        .ti r1 x2 i32, .thi r1 x2 i16],
      exec i s = .next t → s.OnlyRegs t []) ∧
    (∀ i ∈ [Instr.mr r1 r2, .dr r1 r2, .dhr r1 r2],
      exec i s = .next t → s.OnlyRegs t [r1, r1 + 1#4] ∧ t.psw = s.psw)

/-! ## Status switching -/

/-- R331, R333, R330: LPSW and LPSWR in the privileged state: the whole PSW from bits 16:31 of one word, the
location from bits 12:31 of the other; the async timer not being due. The bits ignored of the two words (D6,
D7, log 9) and of the R1 field of LPSW (D28, log 29) are the spec's own choice. -/
def Obligations.LoadStatus : Prop :=
  ∀ (s : State) (r1 r2 : Reg) (rx : RxAddr) (w0 w1 : Word), s.psw.p = false →
    w1.getLsbD 0 = false →
    ¬(s.params.enhancedAsync = true ∧ w0.toNat / 16 % 16 = 15 ∧ (s.regIn 13#4 14#4).msb = true) →
    (s.dataFull (s.effAddr rx) = some w0 → s.dataFull (s.effAddr rx + 4#32) = some w1 →
      exec (.lpsw r1 rx) s =
        .next ((s.begin.setPsw (Psw.ofBits (w0.setWidth 16))).setPc (w1.setWidth 20))) ∧
    (s.reg r2 = w0 → s.reg r1 = w1 →
      exec (.lpswr r1 r2) s =
        .next ((s.begin.setPsw (Psw.ofBits (w0.setWidth 16))).setPc (w1.setWidth 20)))

/-- R480, R337 item 7: on an async-enhanced Engine, LPSW or LPSWR to register set F with the timer count
negative enters the timer routine in set D, the loaded PSW and location in its registers 0 and 1. That the
routine's PSW is the loaded one but for the set is the spec's own choice (D41, log 41). When it is entered is
DEDUCED (log 41); the zeros and the ignored bits of PSW and location images are the spec's own choice (D6, D7,
log 9). -/
def Obligations.TimerRoutine : Prop :=
  ∀ (s : State) (r1 r2 : Reg) (rx : RxAddr) (w0 w1 : Word), s.psw.p = false →
    s.params.enhancedAsync = true → w0.toNat / 16 % 16 = 15 → (s.regIn 13#4 14#4).msb = true →
    w1.getLsbD 0 = false → (s.regIn 13#4 15#4).getLsbD 0 = false →
    let routine : State :=
      (((s.begin.setRegIn 13#4 0#4 ((w0.setWidth 16 : Half).setWidth 32)).setRegIn 13#4 1#4
        ((w1.setWidth 20 : Addr).setWidth 32)).setPsw
        { Psw.ofBits (w0.setWidth 16) with rs := 13#4 }).setPc ((s.regIn 13#4 15#4).setWidth 20)
    (s.reg r2 = w0 → s.reg r1 = w1 → exec (.lpswr r1 r2) s = .next routine) ∧
    (s.dataFull (s.effAddr rx) = some w0 → s.dataFull (s.effAddr rx + 4#32) = some w1 →
      exec (.lpsw r1 rx) s = .next routine)

/-- R332: UPSW loads the location, and of the PSW only the bits of 0x100F, in either state. That it loads the
location is the spec's own choice (D33; DESIGN CHOICE, log 35). So are the bits ignored of the two words (D6,
D7, log 9) and of the R1 field (D28, log 29). -/
def Obligations.UserLoadStatus : Prop :=
  ∀ (s : State) (r1 : Reg) (rx : RxAddr) (w0 w1 : Word), s.dataFull (s.effAddr rx) = some w0 →
    s.dataFull (s.effAddr rx + 4#32) = some w1 → w1.getLsbD 0 = false →
    exec (.upsw r1 rx) s =
      .next ((s.begin.setPsw (Psw.ofBits ((s.psw.toBits &&& 0xEFF0#16) |||
        (w0.setWidth 16 &&& 0x100F#16)))).setPc (w1.setWidth 20))

/-- R334: EPSR in the privileged state: x[R1] of the old set takes the old PSW, and the PSW the old x[R2];
with R1 = R2 the PSW stays. With psw.P = 1 it is illegal. That both registers are of the set selected before
the exchange is the spec's own choice (D30, log 31). The location an illegal instruction saves is the
parameter ILLEGAL_SAVED_PC (D13, log 15), and the zeros and the ignored bits of PSW and location images are
the spec's own choice (D6, D7, log 9). -/
def Obligations.ExchangeStatus : Prop :=
  ∀ (s : State) (r1 r2 : Reg),
    (s.psw.p = true → TakesIllegal (.epsr r1 r2) s) ∧
    (s.psw.p = false → r1 ≠ r2 → exec (.epsr r1 r2) s =
      .next (((s.begin.setReg r1 (s.psw.toBits.setWidth 32)).setPsw
        (Psw.ofBits ((s.reg r2).setWidth 16))).setPc (nextAddr s.pc 2))) ∧
    (s.psw.p = false → exec (.epsr r1 r1) s =
      .next ((s.begin.setReg r1 (s.psw.toBits.setWidth 32)).setPc (nextAddr s.pc 2)))

/-- R336: SVC: registers 13, 14, 15 of the set the new PSW selects take the low 24 bits of the effective
address, the old PSW and the next location; the routine's address is the halfword at 0x9C + 2 k. That 0x98 and
0x9C to 0xBB are absolute with psw.RP = 1 too is the spec's own choice (D39; DESIGN CHOICE, log 39), unsafe
for a relocated program; so are the wait bit of the new PSW, an ordinary bit here (D27, log 28), and the zeros
and the ignored bits of PSW and location images (D6, D7, log 9). -/
def Obligations.SupervisorCall : Prop :=
  ∀ (s : State) (k : Nib) (rx : RxAddr) (newPsw : Word) (entry : Half),
    s.absFull 0x98#20 = some newPsw →
    s.absHalf (BitVec.ofNat 20 (0x9C + 2 * k.toNat)) = some entry → entry.getLsbD 0 = false →
    exec (.svc k rx) s = .next
      (((((s.begin.setPsw (Psw.ofBits (newPsw.setWidth 16))).setReg 13#4
        (BitVec.ofNat 32 ((s.effAddr rx).toNat % 2 ^ 24))).setReg 14#4
        (s.psw.toBits.setWidth 32)).setReg 15#4
        (BitVec.ofNat 32 (nextAddr s.pc rx.length).toNat)).setPc (entry.setWidth 20))

/-- R455, R462, R128: a privileged instruction with psw.P = 1 takes the illegal instruction interrupt and has
no other effect. The location an illegal instruction saves is the parameter ILLEGAL_SAVED_PC (D13, log 15),
and the zeros and the ignored bits of PSW and location images are the spec's own choice (D6, D7, log 9). -/
def Obligations.PrivilegedTakesIllegal : Prop :=
  ∀ (s : State) (r1 r2 : Reg) (rx : RxAddr), s.psw.p = true →
    ∀ i ∈ [Instr.epsr r1 r2, .lpsw r1 rx, .lpswr r1 r2, .wdr r1 r2, .wd r1 rx, .rdr r1 r2, .ssr r1 r2,
      .oc r1 rx, .ocr r1 r2], TakesIllegal i s

/-! ## I/O -/

/-- R351: CIO: the display takes bits 12:31 of x[R1+1] and bits 16:31 of x[R1], then x[R2] takes the switches;
it is not privileged and leaves the condition code. That bits 0:15 of x[R2] are cleared is the spec's own
choice (D25, log 26). So is R1+1 modulo 16 (D16, log 18). -/
def Obligations.ConsoleIo : Prop :=
  ∀ (s : State) (r1 r2 : Reg),
    exec (.cio r1 r2) s = .next
      (({ s.begin with displayLeft := (s.reg (r1 + 1#4)).extractLsb' 0 20
                       displayRight := (s.reg r1).extractLsb' 0 16 }.setReg r2
        (BitVec.ofNat 32 s.switches.toNat)).setPc (nextAddr s.pc 2))

/-- R352, R355, R359: SSR and RDR in the privileged state, when the device answers and when it times out. That
SSR clears bits 0:15 of x[R2], and leaves 4 there and the condition code 0100 when the device times out, and
that the data of RDR is open then, is the spec's own choice (D25; DESIGN CHOICE, log 26). The devices' answers
and the record of the bus are the model's form of DEVICE_ORACLE (D20, log 21). -/
def Obligations.DeviceInput : Prop :=
  ∀ (s : State) (r1 r2 : Reg) (d : Half) (rest : List BusAnswer), s.psw.p = false →
    let dev : Half := (s.reg r1).setWidth 16
    let on (op : BusOp) (tail : List BusAnswer) : State :=
      { s.begin with busIn := tail, busOut := op :: s.busOut }
    (s.busIn = .data d :: rest →
      exec (.ssr r1 r2) s = .next
        ((((on (.sense dev) rest).setReg r2 (BitVec.ofNat 32 d.toNat)).setFlags
          { c := d.getMsbD 12, v := d.getMsbD 13, g := d.getMsbD 14, l := d.getMsbD 15 }).setPc
          (nextAddr s.pc 2)) ∧
      exec (.rdr r1 r2) s = .next
        ((((on (.read dev) rest).setReg r2 (BitVec.ofNat 32 d.toNat)).setFlags
          { c := false, v := false, g := false, l := false }).setPc (nextAddr s.pc 2))) ∧
    (s.busIn = .timeout :: rest ∨ s.busIn = [] →
      exec (.ssr r1 r2) s = .next
        ((((on (.sense dev) s.busIn.tail).setReg r2 4#32).setFlags
          { c := false, v := true, g := false, l := false }).setPc (nextAddr s.pc 2)) ∧
      ∃ x : Half, exec (.rdr r1 r2) s = .next
        ((((on (.read dev) s.busIn.tail).tick.setReg r2 (BitVec.ofNat 32 x.toNat)).setFlags
          { c := false, v := true, g := false, l := false }).setPc (nextAddr s.pc 2)))

/-- R353, R354, R356, R357, R358: OC, OCR, WD and WDR in the privileged state: the operand goes on the bus,
its bytes exchanged when it comes from an even address, and V says whether the device answered. The devices'
answers and the record of the bus are the model's form of DEVICE_ORACLE (D20, log 21). -/
def Obligations.DeviceOutput : Prop :=
  ∀ (s : State) (r1 r2 : Reg) (rx : RxAddr) (h : Half) (ok : Bool), s.psw.p = false →
    (ok = true ↔ ∃ d rest, s.busIn = .data d :: rest) →
    let dev : Half := (s.reg r1).setWidth 16
    let sent : Half := if (s.effAddr rx).getLsbD 0 then h else h.rotateLeft 8
    let on (op : BusOp) (len : Nat) : State :=
      ({ s.begin with busIn := s.busIn.tail, busOut := op :: s.busOut }.setFlags
        { c := false, v := !ok, g := false, l := false }).setPc (nextAddr s.pc len)
    exec (.ocr r1 r2) s = .next (on (.command dev ((s.reg r2).setWidth 16)) 2) ∧
    exec (.wdr r1 r2) s = .next (on (.write dev ((s.reg r2).setWidth 16)) 2) ∧
    (s.dataHalf (s.effAddr rx) = some h →
      exec (.oc r1 rx) s = .next (on (.command dev sent) rx.length) ∧
      exec (.wd r1 rx) s = .next (on (.write dev sent) rx.length))

/-! ## Special instructions -/

/-- R370, R380, R383, R385, R128: when the special instructions are illegal. That an op code of an absent
option or of a later microcode level is illegal is the spec's own choice (D32, log 34). The location an
illegal instruction saves is the parameter ILLEGAL_SAVED_PC (D13, log 15), and the zeros and the ignored bits
of PSW and location images are the spec's own choice (D6, D7, log 9). -/
def Obligations.SpecialLegality : Prop :=
  ∀ (s : State) (r1 r2 : Reg),
    (s.psw.a = false ∨ s.params.enhancedAsync = false →
      ∀ i ∈ [Instr.sbod r1 r2, .xmit r1 r2, .spm r1 r2, .gchar r1 r2], TakesIllegal i s) ∧
    (s.params.microcode = .belowS15 →
      ∀ i ∈ [Instr.copy r1 r2, .arand r1 r2, .scan r1 r2, .align r1 r2, .cksum r1 r2, .gci r1 r2,
        .wci r1 r2, .cbct r1 r2, .rtd1 r1 r2, .rtd2 r1 r2, .rma1 r1 r2, .rma2 r1 r2],
        TakesIllegal i s) ∧
    (s.params.microcode = .s18 → (s.reg 0#4).toInt % 2 = 1 ∨ 0 < (s.reg 0#4).toInt →
      TakesIllegal (.cksum r1 r2) s) ∧
    (s.params.microcode = .s15 → 0 < (s.reg 0#4).toInt ∨ (s.reg 0#4).toInt < -0x80 →
      TakesIllegal (.cksum r1 r2) s)

/-- R371 to R375, R403: the async instructions, enabled and unrelocated, complete at one of their returns.
SBOD leaves the port of one of the groups in register 14 and twice that in register 13, on the output return a
port whose bit is set in the bit array; SPM a count of at most 36. With the async constants of R400 and its
control storage in main memory, SBOD advances SBX by F/3 and the control index by 2 as often, on the output
and done returns until SBX has caught up, leaves TAM alone, goes to the output return with a port whose TAM
bit is on, and is done only if there is none; nothing but the control ring changes in memory. GCHAR, with all
as R374 and R400 expect, samples the ring at the centers of eight data-bauds, CLNGTH and BLNGTH past the
start-baud that register 3 of set 1 names, returns them in register 0, detects a break where the ninth is not
marking, and links its port into the control ring. XMIT, with all as R372 and R400 expect and its storage in
main memory, begins the character at LCTIME if that is RGX5, RGX5 + F5 or RGX5 + 2 F5, else at RGX5, marks its
transitions, and nothing else of the ring, in the areas of phases 0 and 3 at the edges of its bauds, BLNGTH
apart, writes the time of its end into LCTIME, turns TAM of the port off if that is more than 3 F5 past RGX5,
with a bit in a phase 5 cell, and changes nothing else but R1, R2 and sets 1 and 2. The model's readings, not
the rules': that the constants stand, State.asyncReady and State.xmitReady, and AS.SIZ, asyncRingBytes
(DEDUCED, log 54); where SBA and TAM of a port stand, that the limit of SBX is RGX1, how GCHAR links, where
the tables and the samples are, that a character is the low byte of register 0 with a start-baud and a
stop-baud, that an edge goes to the next area of phase 0 or 3, that a character ends at its beginning plus its
width in XLNGTH (DEDUCED, log 33); which of two registers gives RGX5, how times wrap, the order of the
data-bauds, whether edges past the end are marked, the place in register 0 and the rest of the bodies are free
values (log 33). That the bodies run at all, where D31 has a model refuse them, is the model's choice (DESIGN
CHOICE, log 33). -/
def Obligations.AsyncReturns : Prop :=
  ∀ (s : State) (r1 r2 : Reg) (a : Nat → Half), s.psw.a = true → s.params.enhancedAsync = true →
    s.psw.rp = false →
    let array (k : Nat) : Word := s.reg r2 + BitVec.ofNat 32 (2 * k)
    let pending (port : Nat) : Prop := (a (port / 16)).getMsbD (port % 16) = true
    let enabled (port : Nat) : Prop :=
      (s.regIn 3#4 (BitVec.ofNat 4 (16 - s.params.asyncGroups + port / 16))).getMsbD (16 + port % 16) = true
    let named (t : State) : Prop := t.reg 13#4 = t.reg 14#4 + t.reg 14#4 ∧
      (0 < s.params.asyncGroups → (t.reg 14#4).toNat < 16 * s.params.asyncGroups)
    let size := asyncRingBytes s.params
    let control (k : Nat) : Addr := programAddr (s.regIn 1#4 5#4 + BitVec.ofNat 32 k)
    let cell (port offset : Nat) : Addr := programAddr (s.regIn 2#4 7#4 - s.regIn 2#4 13#4 + BitVec.ofNat 32
      (offset % size / (2 * s.params.asyncGroups) * (2 * s.params.asyncGroups) + 2 * (port / 16)))
    let away (x : Nat) (pa : Addr) : Prop := x ≠ evenBase pa ∧ x ≠ evenBase pa + 1
    (s.params.asyncGroups ≤ 16 → s.asyncReady = false →
      (∀ k, k < s.params.asyncGroups → s.dataHalf (array k) = some (a k)) →
      ∃ t, exec (.sbod r1 r2) s = .next t ∧
        (t.pc = nextAddr s.pc 2 ∨ (t.pc = nextAddr s.pc 6 ∧ named t) ∨
          (t.pc = nextAddr s.pc 10 ∧ named t ∧ pending (t.reg 14#4).toNat))) ∧
    (s.params.asyncGroups ≤ 16 → s.asyncReady = true → (s.regIn 1#4 5#4).getLsbD 0 = false →
      (∀ k, k < 0x400 → isPlain s.params (control k) = true) →
      (∀ k, k < s.params.asyncGroups → s.dataHalf (array k) = some (a k) ∧
        ∀ j, j < 0x200 → evenAddr (programAddr (array k)) ≠ evenAddr (control j)) →
      ∃ (t : State) (m : Nat), exec (.sbod r1 r2) s = .next t ∧
        let offset (index : Word) : Nat := (index + s.regIn 1#4 13#4).toNat % size
        let behind := (offset (s.regIn 1#4 8#4) + size - offset (s.regIn 1#4 7#4)) % size /
          (4 * s.params.asyncGroups)
        m ≤ behind ∧
        ((t.pc = nextAddr s.pc 2 ∧ m = behind ∧
            ∀ port, port < 16 * s.params.asyncGroups → pending port → ¬enabled port) ∨
          (t.pc = nextAddr s.pc 6 ∧ named t) ∨
          (t.pc = nextAddr s.pc 10 ∧ m = behind ∧ named t ∧ pending (t.reg 14#4).toNat ∧
            enabled (t.reg 14#4).toNat)) ∧
        (s.psw.rs ≠ 1#4 →
          (t.regIn 1#4 4#4 = if m = 0 then s.regIn 1#4 4#4 else
            BitVec.ofNat 32 (((s.regIn 1#4 4#4).toNat + 2 * m) % 0x200)) ∧
          offset (t.regIn 1#4 7#4) =
            (offset (s.regIn 1#4 7#4) + 4 * s.params.asyncGroups * m) % size) ∧
        (s.psw.rs ≠ 3#4 → ∀ r, (t.regIn 3#4 r).extractLsb' 0 16 = (s.regIn 3#4 r).extractLsb' 0 16) ∧
        (∀ k r, k ≠ 1#4 → k ≠ 2#4 → k ≠ 3#4 → ¬(k = s.psw.rs ∧ (r = r1 ∨ r = 14#4 ∨ r = 13#4)) →
          t.regIn k r = s.regIn k r) ∧
        ∀ x, (∀ k, k < 0x200 → x ≠ (control k).toNat) → t.mem.read x = s.mem.read x) ∧
    (s.xmitReady = false → ∃ t, exec (.xmit r1 r2) s = .next t ∧ t.pc = nextAddr s.pc 2) ∧
    (∀ lctime width baud : Half, s.xmitReady = true → s.params.asyncGroups ≤ 16 → s.mem.wf = true →
      s.dataHalf (s.regIn 2#4 15#4 + s.reg 13#4) = some lctime →
      s.dataHalf (s.regIn 2#4 12#4 + 2#32 * s.reg 2#4) = some width →
      s.dataHalf (s.regIn 2#4 12#4 + 0x20#32 + 2#32 * s.reg 2#4) = some baud →
      (∀ k, k < 0x600 + asyncRingBytes s.params → isPlain s.params (control k) = true) →
      ∃ t, exec (.xmit r1 r2) s = .next t ∧ t.pc = nextAddr s.pc 2 ∧
        (∀ x, (∀ k, k < 0x600 + asyncRingBytes s.params → x ≠ (control k).toNat) →
          t.mem.read x = s.mem.read x) ∧
        ∃ (clock : Nat) (wraps rightFirst past : Bool),
          (clock = (s.regIn 2#4 8#4).toNat ∨ clock = (s.regIn 2#4 9#4 + s.regIn 2#4 13#4).toNat) ∧
          let port := (s.reg 14#4).toNat
          let five := 60 * s.params.asyncGroups
          let time (n : Nat) : Half := BitVec.ofNat 16 (if wraps then n % asyncRingBytes s.params else n)
          let delay := if lctime = time clock then 0 else if lctime = time (clock + five) then five
            else if lctime = time (clock + 2 * five) then 2 * five else 0
          let tam : Reg := BitVec.ofNat 4 (16 - s.params.asyncGroups + port / 16)
          let level (k : Nat) : Bool := if k = 0 then true else if k = 1 then false else if k = 10 then true
            else (s.reg 0#4).getLsbD (if rightFirst then k - 2 else 9 - k)
          let half := 6 * s.params.asyncGroups
          let edge (j : Nat) : Addr := cell port
            (((s.regIn 2#4 9#4 + s.regIn 2#4 13#4).toNat + delay + j * baud.toNat + half - 1) / half * half)
          let marked (j : Nat) : Prop := j < 10 ∧ level (j + 1) ≠ level j ∧
            (past = true ∨ j * baud.toNat < width.toNat)
          (∀ j, marked j → (t.mem.half (edge j)).getMsbD (port % 16) = true) ∧
          (∀ x, away x (programAddr (s.regIn 2#4 15#4 + s.reg 13#4)) → (∀ j, marked j → away x (edge j)) →
            (3 * five < delay + width.toNat → ∀ frame, away x
              (cell port (12 * s.params.asyncGroups * frame + 10 * s.params.asyncGroups))) →
            t.mem.read x = s.mem.read x) ∧
          t.mem.half (programAddr (s.regIn 2#4 15#4 + s.reg 13#4)) = time (clock + delay + width.toNat) ∧
          (∀ k r, k ≠ 1#4 → k ≠ 2#4 → ¬(k = 3#4 ∧ r = tam) → ¬(k = s.psw.rs ∧ (r = r1 ∨ r = r2)) →
            t.regIn k r = s.regIn k r) ∧
          (s.psw.rs ≠ 3#4 → t.regIn 3#4 tam =
            if 3 * five < delay + width.toNat then s.regIn 3#4 tam &&& ~~~(0x8000#32 >>> (port % 16))
            else s.regIn 3#4 tam)) ∧
    (∃ t, exec (.spm r1 r2) s = .next t ∧
      (t.pc = nextAddr s.pc 2 ∨ (t.pc = nextAddr s.pc 4 ∧ (t.reg r1).toNat ≤ 36))) ∧
    (s.portReady (s.reg r2) = false →
      ∃ t, exec (.gchar r1 r2) s = .next t ∧ (t.pc = nextAddr s.pc 2 ∨ t.pc = nextAddr s.pc 6)) ∧
    ∀ length center baud : Half, s.portReady (s.reg r2) = true → s.params.asyncGroups ≤ 16 → s.mem.wf = true →
      (s.regIn 1#4 5#4).getLsbD 0 = false →
      s.dataHalf (s.regIn 2#4 11#4 + 2#32 * s.reg r2) = some length →
      s.dataHalf (s.regIn 2#4 12#4 + 0x40#32 + 2#32 * s.reg r2) = some center →
      s.dataHalf (s.regIn 2#4 12#4 + 0x20#32 + 2#32 * s.reg r2) = some baud →
      (∀ k, k < 0x600 + size → isPlain s.params (control k) = true) →
      ∃ (t : State) (slot place : Nat) (ends rightFirst : Bool), exec (.gchar r1 r2) s = .next t ∧
        let start := (s.regIn 1#4 3#4 + s.regIn 1#4 13#4).toNat % size +
          if ends then size - 2 * s.params.asyncGroups else 0
        let sample (k : Nat) : Bool :=
          (s.mem.half (cell (s.reg 14#4).toNat (start + center.toNat + k * baud.toNat))).getMsbD
            ((s.reg 14#4).toNat % 16)
        t.pc = nextAddr s.pc (if sample 8 then 2 else 6) ∧
        (place ≤ 24 ∧
          ∀ k, k < 8 → (t.reg 0#4).getLsbD (place + if rightFirst then k else 7 - k) = sample k) ∧
        (slot = ((s.regIn 1#4 4#4).toNat + length.toNat) % 0x200 ∨
          slot = ((s.regIn 1#4 4#4).toNat + length.toNat + 2) % 0x200) ∧
        t.mem.half (control slot) = BitVec.ofNat 16 (s.reg 14#4).toNat ∧
        t.mem.half (control (0x200 + 2 * (s.reg 14#4).toNat)) = s.mem.half (control slot) ∧
        (∀ x, (∀ k, k < 0x400 → x ≠ (control k).toNat) → t.mem.read x = s.mem.read x) ∧
        ∀ k r, k ≠ 1#4 → k ≠ 2#4 → ¬(k = s.psw.rs ∧ (r = r1 ∨ r = 0#4)) → t.regIn k r = s.regIn k r

/-- R381, R382, R383: the sync instructions, unrelocated, complete. SCAN skips when the trailing pointer is
less than 0x10 behind, or when the whole ring is marking; with a ring at an even address it returns normally
when the first entry, or any that is at least 0x11 behind, is not marking. ALIGN stores its halfwords in its
sector, or nothing if that address is negative. CKSUM at S.18, of more than 0x40 bytes, advances register 0
and x[R2] by 0x40 and stays at its own address, and ends with the last portion, with a count of 0 at once,
which the spec presumes and does not state (T8.18; DESIGN CHOICE, log 33); before S.18 it ends at once. That
ALIGN's count is unsigned is the model's choice too (DESIGN CHOICE, log 33). Results not stated, and the unit
of SCAN, are the model's free values (log 33). That the bodies run at all, where D31 has a model refuse them,
is the model's choice (DESIGN CHOICE, log 33). R1+1 modulo 16 is the spec's own choice (D16, log 18). -/
def Obligations.SyncCompletes : Prop :=
  ∀ (s : State) (r1 r2 : Reg) (b : Nat → Byte) (p : Nat → Addr), s.psw.rp = false →
    s.params.microcode ≠ .belowS15 →
    let trail := (s.reg (r1 + 1#4)).toNat % 256
    let behind := ((s.reg r1).toNat + 256 - trail) % 256
    let count := (s.reg 0#4).toInt
    let readable (n : Nat) : Prop :=
      ∀ k : Nat, k < n → ∃ h, s.dataHalf (s.reg r2 + BitVec.ofNat 32 (2 * k)) = some h
    (behind < 16 →
      ∃ t, exec (.scan r1 r2) s = .next t ∧ t.pc = nextAddr s.pc 4 ∧ s.OnlyRegs t [r1 + 1#4]) ∧
    ((s.reg r2).getLsbD 0 = false →
      (∀ k : Nat, k < 256 → s.dataByte (s.reg r2 + BitVec.ofNat 32 k) = some (b k)) →
      ∃ t, exec (.scan r1 r2) s = .next t ∧ s.OnlyRegs t [r1 + 1#4] ∧
        (t.pc = nextAddr s.pc 2 ∨ t.pc = nextAddr s.pc 4) ∧
        ((∀ k, k < 256 → b k = 0xFF#8) → t.pc = nextAddr s.pc 4) ∧
        ∀ j, j = 0 ∧ 16 ≤ behind ∨ j + 17 ≤ behind → b ((trail + j) % 256) ≠ 0xFF#8 →
          t.pc = nextAddr s.pc 2) ∧
    ((s.reg 8#4).toInt < 0 →
      ∃ t, exec (.align r1 r2) s = .next t ∧ t.pc = nextAddr s.pc 2 ∧ t.mem = s.mem) ∧
    (0 ≤ (s.reg 8#4).toInt →
      (∀ k, k < (s.reg 1#4).toNat → s.StoresTo (s.reg 8#4 + BitVec.ofNat 32 (2 * k)) (p k)) →
      ∃ t, exec (.align r1 r2) s = .next t ∧ t.pc = nextAddr s.pc 2 ∧
        ∀ x, (∀ k, k < (s.reg 1#4).toNat → x ≠ evenBase (p k) ∧ x ≠ evenBase (p k) + 1) →
          t.mem.read x = s.mem.read x) ∧
    (s.params.microcode = .s18 → count % 2 = 0 →
      (count < -0x40 → r2 ≠ 0#4 → r1 ≠ 0#4 → r1 ≠ r2 → r1 + 1#4 ≠ 0#4 → r1 + 1#4 ≠ r2 →
        readable 0x20 →
        ∃ t, exec (.cksum r1 r2) s = .next t ∧ t.pc = s.pc ∧ t.mem = s.mem ∧
          t.reg 0#4 = s.reg 0#4 + 0x40#32 ∧ t.reg r2 = s.reg r2 + 0x40#32) ∧
      (-0x40 ≤ count → count ≤ 0 → readable 0x20 →
        ∃ t, exec (.cksum r1 r2) s = .next t ∧ t.pc = nextAddr s.pc 2 ∧
          s.OnlyRegs t [r1, r1 + 1#4, r2, 0#4])) ∧
    (s.params.microcode = .s15 → -0x80 ≤ count → count ≤ 0 → readable 0x40 →
      ∃ t, exec (.cksum r1 r2) s = .next t ∧ t.pc = nextAddr s.pc 2 ∧ s.OnlyRegs t [r1, r1 + 1#4])

/-- R386 to R392, R395, R396: the bufferlet instructions, unrelocated, complete. GCI and WCI with a bad index,
and GCI of an empty buffer, go to the routine their second in-line halfword names, and WCI of an empty buffer
to that of the fifth, with nothing stored. Else the pointer in the array advances in memory; GCI delivers the
byte and leaves the advanced pointer in register 3, WCI stores its character at the pointer or after it; they
go on past their in-line data, at the end of a bufferlet to NEXT, and GCI, if the buffer may now be empty,
perhaps to LAST. RTD and RMA end past their in-line data or in one of the routines named there: with the count
at 0 they are done, at the end of a bufferlet they go to NEXT with its address in register 3, and after a
character of code k from 0 to 3, stored but not counted, to CHARk; CBCT goes past its two halfwords. In-line
offsets sign-extended, the order of the tests, the addresses left in registers 12 and 3, RMA's CHARk alike,
and open results free: the model's (DEDUCED, DESIGN CHOICE, log 33). That the bodies run at all, where D31 has
a model refuse them, is the model's choice (DESIGN CHOICE, log 33). -/
def Obligations.BufferletCompletes : Prop :=
  ∀ (s : State) (r1 r2 : Reg) (h : Nat → Half), s.psw.rp = false → s.params.microcode ≠ .belowS15 →
    s.pc.getLsbD 0 = false →
    (∀ k, 1 ≤ k → k ≤ 6 → s.dataHalf (pcImage s.pc + BitVec.ofNat 32 (2 * k)) = some (h k)) →
    (∀ k, 1 ≤ k → k ≤ 6 → (h k).getLsbD 0 = false) →
    let target (base : Addr) (k : Nat) : Addr := base + (h k).signExtend 20
    let place : Word := BitVec.ofNat 32 (4 * (h 3).toNat) + s.reg r2
    let onMemory (a : Addr) : Prop := isPlain s.params a = true
    (∃ t, exec (.cbct r1 r2) s = .next t ∧ t.pc = nextAddr s.pc 6 ∧ t.mem = s.mem) ∧
    ((h 1).toNat ≤ (s.reg r2).toNat →
      (∃ t, exec (.gci r1 r2) s = .next t ∧ t.pc = target s.pc 2 ∧ t.mem = s.mem) ∧
      (∃ t, exec (.wci r1 r2) s = .next t ∧ t.pc = target s.pc 2 ∧ t.mem = s.mem)) ∧
    ((s.reg r2).toNat < (h 1).toNat → s.dataFull place = some 0#32 →
      (∃ t, exec (.gci r1 r2) s = .next t ∧ t.pc = target s.pc 2 ∧ t.mem = s.mem) ∧
      (∃ t, exec (.wci r1 r2) s = .next t ∧ t.pc = target s.pc 5 ∧ t.mem = s.mem)) ∧
    (∀ q : Word, (s.reg r2).toNat < (h 1).toNat → s.mem.wf = true → s.dataFull place = some q →
      q ≠ 0#32 → onMemory (evenAddr (programAddr place)) → onMemory (evenAddr (programAddr place) + 2#20) →
      let full : Prop := (q.toNat + 1) % 16 = 0
      (∀ (be : Word) (b : Byte), s.dataFull (place + (h 1).setWidth 32) = some be →
        s.dataByte q = some b →
        ∃ t, exec (.gci r1 r2) s = .next t ∧ t.dataFull place = some (q + 1#32) ∧
          (r1 ≠ 3#4 → t.reg 3#4 = q + 1#32 ∧ (t.reg r1).extractLsb' 0 8 = b) ∧
          (t.pc = (if full then target s.pc 4 else nextAddr s.pc 12) ∨
            (t.pc = target s.pc 5 ∧ (be = q ∨ be = q + 1#32)))) ∧
      (onMemory (evenAddr (programAddr q)) → onMemory (evenAddr (programAddr (q + 1#32))) →
        ∃ t, exec (.wci r1 r2) s = .next t ∧ t.dataFull place = some (q + 1#32) ∧
          t.pc = (if full then target s.pc 4 else nextAddr s.pc 12) ∧
          (¬full →
            (∀ x ∈ [q, q + 1#32], evenAddr (programAddr x) ≠ evenAddr (programAddr place) ∧
              evenAddr (programAddr x) ≠ evenAddr (programAddr place) + 2#20) →
            t.dataByte q = some ((s.reg r1).setWidth 8) ∨
              t.dataByte (q + 1#32) = some ((s.reg r1).setWidth 8)))) ∧
    (∀ (rtd second : Bool) (b : Nat → Byte) (c : Nat),
      let n := (s.reg r2).toNat
      let i := if rtd then (if second then Instr.rtd2 r1 r2 else .rtd1 r1 r2)
        else if second then .rma2 r1 r2 else .rma1 r1 r2
      let base := if second then s.pc else nextAddr s.pc 2
      let named (k : Nat) : Addr := target base (if second then k else k + 1)
      let ended : Prop := (s.bufferAt rtd c).toNat % 16 = 0
      s.mem.wf = true → (rtd = false → 0 < n → s.CurrentHalves r1) → (∀ k, k < c → 4 ≤ (b k).toNat) →
      (c = n → s.Copyable rtd b c →
        ∃ t, exec i s = .next t ∧
          ((t.pc = nextAddr base 12 ∧ s.CopiedTo t rtd r1 r2 b c 0 (s.reg 3#4 + BitVec.ofNat 32 c)) ∨
            (ended ∧ t.pc = named 1 ∧ s.CopiedTo t rtd r1 r2 b c 0 (s.bufferAt rtd c)))) ∧
      (c < n → s.Copyable rtd b c → ended →
        ∃ t, exec i s = .next t ∧ t.pc = named 1 ∧
          s.CopiedTo t rtd r1 r2 b c (n - c) (s.bufferAt rtd c)) ∧
      (c < n → s.Copyable rtd b (c + 1) → (b c).toNat < 4 →
        ∃ t, exec i s = .next t ∧ t.pc = named (2 + (b c).toNat) ∧
          s.CopiedTo t rtd r1 r2 b (c + 1) (n - c) (s.reg 3#4 + BitVec.ofNat 32 (c + 1))))
end

