-- ==== Sys2Proof/Laws/Encoding.lean ====
section
/-! SUPPORT. The fields of the words an encoder builds, and the words a decoder's fields build: the
lemmas a proof about encodings cites instead of unfolding the field extractions. -/

namespace Sys2Proof

/-- OP of a first halfword (R110). -/
@[simp] theorem opField_firstHalf (op : Byte) (r1 r2 : Reg) : opField (firstHalf op r1 r2) = op := by
  apply BitVec.eq_of_getLsbD_eq
  intro i hi
  have h0 : ¬ 8 + i < 4 := by omega
  have h1 : ¬ 8 + i - 4 < 4 := by omega
  simp only [opField, firstHalf, BitVec.getLsbD_extractLsb', BitVec.getLsbD_append, h0, h1, hi, decide_true,
    Bool.true_and, if_false]
  congr 1
  omega

/-- R1, or the mask, of a first halfword (R110). -/
@[simp] theorem r1Field_firstHalf (op : Byte) (r1 r2 : Reg) : r1Field (firstHalf op r1 r2) = r1 := by
  apply BitVec.eq_of_getLsbD_eq
  intro i hi
  have h0 : ¬ 4 + i < 4 := by omega
  have h1 : 4 + i - 4 < 4 := by omega
  simp only [r1Field, firstHalf, BitVec.getLsbD_extractLsb', BitVec.getLsbD_append, h0, h1, hi, decide_true,
    Bool.true_and, if_false, if_true]
  congr 1
  omega

/-- R2, N or X2 of a first halfword (R110). -/
@[simp] theorem r2Field_firstHalf (op : Byte) (r1 r2 : Reg) : r2Field (firstHalf op r1 r2) = r2 := by
  apply BitVec.eq_of_getLsbD_eq
  intro i hi
  have h0 : 0 + i < 4 := by omega
  simp only [r2Field, firstHalf, BitVec.getLsbD_extractLsb', BitVec.getLsbD_append, h0, hi, decide_true,
    Bool.true_and, if_true]
  congr 1
  omega

/-- A first halfword is made of its three fields (R110). -/
theorem firstHalf_fields (h : Half) : firstHalf (opField h) (r1Field h) (r2Field h) = h := by
  apply BitVec.eq_of_getLsbD_eq
  intro i hi
  simp only [firstHalf, opField, r1Field, r2Field, BitVec.getLsbD_append, BitVec.getLsbD_extractLsb']
  by_cases h0 : i < 4
  · simp [h0]
  by_cases h1 : i - 4 < 4
  · have e : 4 + (i - 4) = i := by omega
    simp [h0, h1, e]
  · have e : 8 + (i - 4 - 4) = i := by omega
    have h2 : i - 4 - 4 < 8 := by omega
    simp [h0, h1, h2, e]

/-- The words of an RX instruction are as many as its operand's length says (R111). -/
theorem encodeRx_length (op : Byte) (r1 : Reg) (rx : RxAddr) :
    2 * (encodeRx op r1 rx).length = rx.length := by
  cases rx <;> rfl

/-- The first word of an RX instruction (R117 to R119). -/
theorem encodeRx_head (op : Byte) (r1 : Reg) (rx : RxAddr) :
    ∃ r2 hs, encodeRx op r1 rx = firstHalf op r1 r2 :: hs := by
  cases rx <;> exact ⟨_, _, rfl⟩

end Sys2Proof
end

