-- ==== Sys2Proof/Laws/Exec.lean ====
section
/-! SUPPORT. What `exec` answers for each constructor, by rfl, so that no proof unfolds the dispatch. -/

namespace Sys2Proof.Machine

@[simp] theorem exec_jalr (r1 : Reg) (r2 : Reg) (s : State) :
    exec (.jalr r1 r2) s = execJalr r1 r2 s := rfl
@[simp] theorem exec_jtr (mask : Nib) (r2 : Reg) (s : State) :
    exec (.jtr mask r2) s = execJtr mask r2 s := rfl
@[simp] theorem exec_jfr (mask : Nib) (r2 : Reg) (s : State) :
    exec (.jfr mask r2) s = execJfr mask r2 s := rfl
@[simp] theorem exec_nr (r1 : Reg) (r2 : Reg) (s : State) : exec (.nr r1 r2) s = execNr r1 r2 s := rfl
@[simp] theorem exec_clr (r1 : Reg) (r2 : Reg) (s : State) : exec (.clr r1 r2) s = execClr r1 r2 s := rfl
@[simp] theorem exec_or (r1 : Reg) (r2 : Reg) (s : State) : exec (.or r1 r2) s = execOr r1 r2 s := rfl
@[simp] theorem exec_xr (r1 : Reg) (r2 : Reg) (s : State) : exec (.xr r1 r2) s = execXr r1 r2 s := rfl
@[simp] theorem exec_lr (r1 : Reg) (r2 : Reg) (s : State) : exec (.lr r1 r2) s = execLr r1 r2 s := rfl
@[simp] theorem exec_cr (r1 : Reg) (r2 : Reg) (s : State) : exec (.cr r1 r2) s = execCr r1 r2 s := rfl
@[simp] theorem exec_ar (r1 : Reg) (r2 : Reg) (s : State) : exec (.ar r1 r2) s = execAr r1 r2 s := rfl
@[simp] theorem exec_sr (r1 : Reg) (r2 : Reg) (s : State) : exec (.sr r1 r2) s = execSr r1 r2 s := rfl
@[simp] theorem exec_mhr (r1 : Reg) (r2 : Reg) (s : State) : exec (.mhr r1 r2) s = execMhr r1 r2 s := rfl
@[simp] theorem exec_dhr (r1 : Reg) (r2 : Reg) (s : State) : exec (.dhr r1 r2) s = execDhr r1 r2 s := rfl
@[simp] theorem exec_rma1 (r1 : Reg) (r2 : Reg) (s : State) :
    exec (.rma1 r1 r2) s = execRma1 r1 r2 s := rfl
@[simp] theorem exec_rma2 (r1 : Reg) (r2 : Reg) (s : State) :
    exec (.rma2 r1 r2) s = execRma2 r1 r2 s := rfl
@[simp] theorem exec_srls (r1 : Reg) (n : Nib) (s : State) : exec (.srls r1 n) s = execSrls r1 n s := rfl
@[simp] theorem exec_slls (r1 : Reg) (n : Nib) (s : State) : exec (.slls r1 n) s = execSlls r1 n s := rfl
@[simp] theorem exec_lhr (r1 : Reg) (r2 : Reg) (s : State) : exec (.lhr r1 r2) s = execLhr r1 r2 s := rfl
@[simp] theorem exec_sbod (r1 : Reg) (r2 : Reg) (s : State) :
    exec (.sbod r1 r2) s = execSbod r1 r2 s := rfl
@[simp] theorem exec_xmit (r1 : Reg) (r2 : Reg) (s : State) :
    exec (.xmit r1 r2) s = execXmit r1 r2 s := rfl
@[simp] theorem exec_spm (r1 : Reg) (r2 : Reg) (s : State) : exec (.spm r1 r2) s = execSpm r1 r2 s := rfl
@[simp] theorem exec_gchar (r1 : Reg) (r2 : Reg) (s : State) :
    exec (.gchar r1 r2) s = execGchar r1 r2 s := rfl
@[simp] theorem exec_lpswr (r1 : Reg) (r2 : Reg) (s : State) :
    exec (.lpswr r1 r2) s = execLpswr r1 r2 s := rfl
@[simp] theorem exec_mr (r1 : Reg) (r2 : Reg) (s : State) : exec (.mr r1 r2) s = execMr r1 r2 s := rfl
@[simp] theorem exec_dr (r1 : Reg) (r2 : Reg) (s : State) : exec (.dr r1 r2) s = execDr r1 r2 s := rfl
@[simp] theorem exec_jtbs (mask : Nib) (n : Nib) (s : State) :
    exec (.jtbs mask n) s = execJtbs mask n s := rfl
@[simp] theorem exec_jtfs (mask : Nib) (n : Nib) (s : State) :
    exec (.jtfs mask n) s = execJtfs mask n s := rfl
@[simp] theorem exec_jfbs (mask : Nib) (n : Nib) (s : State) :
    exec (.jfbs mask n) s = execJfbs mask n s := rfl
@[simp] theorem exec_jffs (mask : Nib) (n : Nib) (s : State) :
    exec (.jffs mask n) s = execJffs mask n s := rfl
@[simp] theorem exec_lis (r1 : Reg) (n : Nib) (s : State) : exec (.lis r1 n) s = execLis r1 n s := rfl
@[simp] theorem exec_lcs (r1 : Reg) (n : Nib) (s : State) : exec (.lcs r1 n) s = execLcs r1 n s := rfl
@[simp] theorem exec_ais (r1 : Reg) (n : Nib) (s : State) : exec (.ais r1 n) s = execAis r1 n s := rfl
@[simp] theorem exec_sis (r1 : Reg) (n : Nib) (s : State) : exec (.sis r1 n) s = execSis r1 n s := rfl
@[simp] theorem exec_jffo (r1 : Reg) (n : Nib) (s : State) : exec (.jffo r1 n) s = execJffo r1 n s := rfl
@[simp] theorem exec_jffoh (r1 : Reg) (n : Nib) (s : State) :
    exec (.jffoh r1 n) s = execJffoh r1 n s := rfl
@[simp] theorem exec_exhr (r1 : Reg) (r2 : Reg) (s : State) :
    exec (.exhr r1 r2) s = execExhr r1 r2 s := rfl
@[simp] theorem exec_scan (r1 : Reg) (r2 : Reg) (s : State) :
    exec (.scan r1 r2) s = execScan r1 r2 s := rfl
@[simp] theorem exec_align (r1 : Reg) (r2 : Reg) (s : State) :
    exec (.align r1 r2) s = execAlign r1 r2 s := rfl
@[simp] theorem exec_cksum (r1 : Reg) (r2 : Reg) (s : State) :
    exec (.cksum r1 r2) s = execCksum r1 r2 s := rfl
@[simp] theorem exec_gci (r1 : Reg) (r2 : Reg) (s : State) : exec (.gci r1 r2) s = execGci r1 r2 s := rfl
@[simp] theorem exec_wci (r1 : Reg) (r2 : Reg) (s : State) : exec (.wci r1 r2) s = execWci r1 r2 s := rfl
@[simp] theorem exec_cbct (r1 : Reg) (r2 : Reg) (s : State) :
    exec (.cbct r1 r2) s = execCbct r1 r2 s := rfl
@[simp] theorem exec_rtd1 (r1 : Reg) (r2 : Reg) (s : State) :
    exec (.rtd1 r1 r2) s = execRtd1 r1 r2 s := rfl
@[simp] theorem exec_rtd2 (r1 : Reg) (r2 : Reg) (s : State) :
    exec (.rtd2 r1 r2) s = execRtd2 r1 r2 s := rfl
@[simp] theorem exec_arand (r1 : Reg) (r2 : Reg) (s : State) :
    exec (.arand r1 r2) s = execArand r1 r2 s := rfl
@[simp] theorem exec_copy (r1 : Reg) (r2 : Reg) (s : State) :
    exec (.copy r1 r2) s = execCopy r1 r2 s := rfl
@[simp] theorem exec_sth (r1 : Reg) (rx : RxAddr) (s : State) :
    exec (.sth r1 rx) s = execSth r1 rx s := rfl
@[simp] theorem exec_jal (r1 : Reg) (rx : RxAddr) (s : State) :
    exec (.jal r1 rx) s = execJal r1 rx s := rfl
@[simp] theorem exec_jt (mask : Nib) (rx : RxAddr) (s : State) :
    exec (.jt mask rx) s = execJt mask rx s := rfl
@[simp] theorem exec_jf (mask : Nib) (rx : RxAddr) (s : State) :
    exec (.jf mask rx) s = execJf mask rx s := rfl
@[simp] theorem exec_nh (r1 : Reg) (rx : RxAddr) (s : State) : exec (.nh r1 rx) s = execNh r1 rx s := rfl
@[simp] theorem exec_clh (r1 : Reg) (rx : RxAddr) (s : State) :
    exec (.clh r1 rx) s = execClh r1 rx s := rfl
@[simp] theorem exec_oh (r1 : Reg) (rx : RxAddr) (s : State) : exec (.oh r1 rx) s = execOh r1 rx s := rfl
@[simp] theorem exec_xh (r1 : Reg) (rx : RxAddr) (s : State) : exec (.xh r1 rx) s = execXh r1 rx s := rfl
@[simp] theorem exec_lh (r1 : Reg) (rx : RxAddr) (s : State) : exec (.lh r1 rx) s = execLh r1 rx s := rfl
@[simp] theorem exec_ch (r1 : Reg) (rx : RxAddr) (s : State) : exec (.ch r1 rx) s = execCh r1 rx s := rfl
@[simp] theorem exec_ah (r1 : Reg) (rx : RxAddr) (s : State) : exec (.ah r1 rx) s = execAh r1 rx s := rfl
@[simp] theorem exec_sh (r1 : Reg) (rx : RxAddr) (s : State) : exec (.sh r1 rx) s = execSh r1 rx s := rfl
@[simp] theorem exec_mh (r1 : Reg) (rx : RxAddr) (s : State) : exec (.mh r1 rx) s = execMh r1 rx s := rfl
@[simp] theorem exec_dh (r1 : Reg) (rx : RxAddr) (s : State) : exec (.dh r1 rx) s = execDh r1 rx s := rfl
@[simp] theorem exec_st (r1 : Reg) (rx : RxAddr) (s : State) : exec (.st r1 rx) s = execSt r1 rx s := rfl
@[simp] theorem exec_am (r1 : Reg) (rx : RxAddr) (s : State) : exec (.am r1 rx) s = execAm r1 rx s := rfl
@[simp] theorem exec_n (r1 : Reg) (rx : RxAddr) (s : State) : exec (.n r1 rx) s = execN r1 rx s := rfl
@[simp] theorem exec_cl (r1 : Reg) (rx : RxAddr) (s : State) : exec (.cl r1 rx) s = execCl r1 rx s := rfl
@[simp] theorem exec_o (r1 : Reg) (rx : RxAddr) (s : State) : exec (.o r1 rx) s = execO r1 rx s := rfl
@[simp] theorem exec_x (r1 : Reg) (rx : RxAddr) (s : State) : exec (.x r1 rx) s = execX r1 rx s := rfl
@[simp] theorem exec_l (r1 : Reg) (rx : RxAddr) (s : State) : exec (.l r1 rx) s = execL r1 rx s := rfl
@[simp] theorem exec_c (r1 : Reg) (rx : RxAddr) (s : State) : exec (.c r1 rx) s = execC r1 rx s := rfl
@[simp] theorem exec_a (r1 : Reg) (rx : RxAddr) (s : State) : exec (.a r1 rx) s = execA r1 rx s := rfl
@[simp] theorem exec_s (r1 : Reg) (rx : RxAddr) (s : State) : exec (.s r1 rx) s = execS r1 rx s := rfl
@[simp] theorem exec_m (r1 : Reg) (rx : RxAddr) (s : State) : exec (.m r1 rx) s = execM r1 rx s := rfl
@[simp] theorem exec_d (r1 : Reg) (rx : RxAddr) (s : State) : exec (.d r1 rx) s = execD r1 rx s := rfl
@[simp] theorem exec_ahm (r1 : Reg) (rx : RxAddr) (s : State) :
    exec (.ahm r1 rx) s = execAhm r1 rx s := rfl
@[simp] theorem exec_lhl (r1 : Reg) (rx : RxAddr) (s : State) :
    exec (.lhl r1 rx) s = execLhl r1 rx s := rfl
@[simp] theorem exec_tbt (r1 : Reg) (rx : RxAddr) (s : State) :
    exec (.tbt r1 rx) s = execTbt r1 rx s := rfl
@[simp] theorem exec_sbt (r1 : Reg) (rx : RxAddr) (s : State) :
    exec (.sbt r1 rx) s = execSbt r1 rx s := rfl
@[simp] theorem exec_rbt (r1 : Reg) (rx : RxAddr) (s : State) :
    exec (.rbt r1 rx) s = execRbt r1 rx s := rfl
@[simp] theorem exec_cbt (r1 : Reg) (rx : RxAddr) (s : State) :
    exec (.cbt r1 rx) s = execCbt r1 rx s := rfl
@[simp] theorem exec_srhls (r1 : Reg) (n : Nib) (s : State) :
    exec (.srhls r1 n) s = execSrhls r1 n s := rfl
@[simp] theorem exec_slhls (r1 : Reg) (n : Nib) (s : State) :
    exec (.slhls r1 n) s = execSlhls r1 n s := rfl
@[simp] theorem exec_stbr (r1 : Reg) (r2 : Reg) (s : State) :
    exec (.stbr r1 r2) s = execStbr r1 r2 s := rfl
@[simp] theorem exec_lbr (r1 : Reg) (r2 : Reg) (s : State) : exec (.lbr r1 r2) s = execLbr r1 r2 s := rfl
@[simp] theorem exec_exbr (r1 : Reg) (r2 : Reg) (s : State) :
    exec (.exbr r1 r2) s = execExbr r1 r2 s := rfl
@[simp] theorem exec_epsr (r1 : Reg) (r2 : Reg) (s : State) :
    exec (.epsr r1 r2) s = execEpsr r1 r2 s := rfl
@[simp] theorem exec_cio (r1 : Reg) (r2 : Reg) (s : State) : exec (.cio r1 r2) s = execCio r1 r2 s := rfl
@[simp] theorem exec_wdr (r1 : Reg) (r2 : Reg) (s : State) : exec (.wdr r1 r2) s = execWdr r1 r2 s := rfl
@[simp] theorem exec_rdr (r1 : Reg) (r2 : Reg) (s : State) : exec (.rdr r1 r2) s = execRdr r1 r2 s := rfl
@[simp] theorem exec_ssr (r1 : Reg) (r2 : Reg) (s : State) : exec (.ssr r1 r2) s = execSsr r1 r2 s := rfl
@[simp] theorem exec_ocr (r1 : Reg) (r2 : Reg) (s : State) : exec (.ocr r1 r2) s = execOcr r1 r2 s := rfl
@[simp] theorem exec_lpsw (r1 : Reg) (rx : RxAddr) (s : State) :
    exec (.lpsw r1 rx) s = execLpsw r1 rx s := rfl
@[simp] theorem exec_thi (r1 : Reg) (x2 : Reg) (i2 : Half) (s : State) :
    exec (.thi r1 x2 i2) s = execThi r1 x2 i2 s := rfl
@[simp] theorem exec_nhi (r1 : Reg) (x2 : Reg) (i2 : Half) (s : State) :
    exec (.nhi r1 x2 i2) s = execNhi r1 x2 i2 s := rfl
@[simp] theorem exec_clhi (r1 : Reg) (x2 : Reg) (i2 : Half) (s : State) :
    exec (.clhi r1 x2 i2) s = execClhi r1 x2 i2 s := rfl
@[simp] theorem exec_ohi (r1 : Reg) (x2 : Reg) (i2 : Half) (s : State) :
    exec (.ohi r1 x2 i2) s = execOhi r1 x2 i2 s := rfl
@[simp] theorem exec_xhi (r1 : Reg) (x2 : Reg) (i2 : Half) (s : State) :
    exec (.xhi r1 x2 i2) s = execXhi r1 x2 i2 s := rfl
@[simp] theorem exec_lhi (r1 : Reg) (x2 : Reg) (i2 : Half) (s : State) :
    exec (.lhi r1 x2 i2) s = execLhi r1 x2 i2 s := rfl
@[simp] theorem exec_chi (r1 : Reg) (x2 : Reg) (i2 : Half) (s : State) :
    exec (.chi r1 x2 i2) s = execChi r1 x2 i2 s := rfl
@[simp] theorem exec_ahi (r1 : Reg) (x2 : Reg) (i2 : Half) (s : State) :
    exec (.ahi r1 x2 i2) s = execAhi r1 x2 i2 s := rfl
@[simp] theorem exec_shi (r1 : Reg) (x2 : Reg) (i2 : Half) (s : State) :
    exec (.shi r1 x2 i2) s = execShi r1 x2 i2 s := rfl
@[simp] theorem exec_srhl (r1 : Reg) (rx : RxAddr) (s : State) :
    exec (.srhl r1 rx) s = execSrhl r1 rx s := rfl
@[simp] theorem exec_slhl (r1 : Reg) (rx : RxAddr) (s : State) :
    exec (.slhl r1 rx) s = execSlhl r1 rx s := rfl
@[simp] theorem exec_stm (r1 : Reg) (rx : RxAddr) (s : State) :
    exec (.stm r1 rx) s = execStm r1 rx s := rfl
@[simp] theorem exec_lm (r1 : Reg) (rx : RxAddr) (s : State) : exec (.lm r1 rx) s = execLm r1 rx s := rfl
@[simp] theorem exec_stb (r1 : Reg) (rx : RxAddr) (s : State) :
    exec (.stb r1 rx) s = execStb r1 rx s := rfl
@[simp] theorem exec_lb (r1 : Reg) (rx : RxAddr) (s : State) : exec (.lb r1 rx) s = execLb r1 rx s := rfl
@[simp] theorem exec_clb (r1 : Reg) (rx : RxAddr) (s : State) :
    exec (.clb r1 rx) s = execClb r1 rx s := rfl
@[simp] theorem exec_upsw (r1 : Reg) (rx : RxAddr) (s : State) :
    exec (.upsw r1 rx) s = execUpsw r1 rx s := rfl
@[simp] theorem exec_wd (r1 : Reg) (rx : RxAddr) (s : State) : exec (.wd r1 rx) s = execWd r1 rx s := rfl
@[simp] theorem exec_oc (r1 : Reg) (rx : RxAddr) (s : State) : exec (.oc r1 rx) s = execOc r1 rx s := rfl
@[simp] theorem exec_ts (r1 : Reg) (rx : RxAddr) (s : State) : exec (.ts r1 rx) s = execTs r1 rx s := rfl
@[simp] theorem exec_svc (r1 : Reg) (rx : RxAddr) (s : State) :
    exec (.svc r1 rx) s = execSvc r1 rx s := rfl
@[simp] theorem exec_la (r1 : Reg) (rx : RxAddr) (s : State) : exec (.la r1 rx) s = execLa r1 rx s := rfl
@[simp] theorem exec_rrl (r1 : Reg) (rx : RxAddr) (s : State) :
    exec (.rrl r1 rx) s = execRrl r1 rx s := rfl
@[simp] theorem exec_rll (r1 : Reg) (rx : RxAddr) (s : State) :
    exec (.rll r1 rx) s = execRll r1 rx s := rfl
@[simp] theorem exec_srl (r1 : Reg) (rx : RxAddr) (s : State) :
    exec (.srl r1 rx) s = execSrl r1 rx s := rfl
@[simp] theorem exec_sll (r1 : Reg) (rx : RxAddr) (s : State) :
    exec (.sll r1 rx) s = execSll r1 rx s := rfl
@[simp] theorem exec_sra (r1 : Reg) (rx : RxAddr) (s : State) :
    exec (.sra r1 rx) s = execSra r1 rx s := rfl
@[simp] theorem exec_ti (r1 : Reg) (x2 : Reg) (i2 : Word) (s : State) :
    exec (.ti r1 x2 i2) s = execTi r1 x2 i2 s := rfl
@[simp] theorem exec_ni (r1 : Reg) (x2 : Reg) (i2 : Word) (s : State) :
    exec (.ni r1 x2 i2) s = execNi r1 x2 i2 s := rfl
@[simp] theorem exec_cli (r1 : Reg) (x2 : Reg) (i2 : Word) (s : State) :
    exec (.cli r1 x2 i2) s = execCli r1 x2 i2 s := rfl
@[simp] theorem exec_oi (r1 : Reg) (x2 : Reg) (i2 : Word) (s : State) :
    exec (.oi r1 x2 i2) s = execOi r1 x2 i2 s := rfl
@[simp] theorem exec_xi (r1 : Reg) (x2 : Reg) (i2 : Word) (s : State) :
    exec (.xi r1 x2 i2) s = execXi r1 x2 i2 s := rfl
@[simp] theorem exec_li (r1 : Reg) (x2 : Reg) (i2 : Word) (s : State) :
    exec (.li r1 x2 i2) s = execLi r1 x2 i2 s := rfl
@[simp] theorem exec_ci (r1 : Reg) (x2 : Reg) (i2 : Word) (s : State) :
    exec (.ci r1 x2 i2) s = execCi r1 x2 i2 s := rfl
@[simp] theorem exec_ai (r1 : Reg) (x2 : Reg) (i2 : Word) (s : State) :
    exec (.ai r1 x2 i2) s = execAi r1 x2 i2 s := rfl
@[simp] theorem exec_si (r1 : Reg) (x2 : Reg) (i2 : Word) (s : State) :
    exec (.si r1 x2 i2) s = execSi r1 x2 i2 s := rfl
@[simp] theorem exec_nop (rx : RxAddr) (s : State) : exec (.nop rx) s = execNop rx s := rfl
@[simp] theorem exec_nopr (r2 : Reg) (s : State) : exec (.nopr r2) s = execNopr r2 s := rfl
@[simp] theorem exec_j (rx : RxAddr) (s : State) : exec (.j rx) s = execJ rx s := rfl
@[simp] theorem exec_jr (r2 : Reg) (s : State) : exec (.jr r2) s = execJr r2 s := rfl
@[simp] theorem exec_jbs (n : Nib) (s : State) : exec (.jbs n) s = execJbs n s := rfl
@[simp] theorem exec_jfs (n : Nib) (s : State) : exec (.jfs n) s = execJfs n s := rfl
@[simp] theorem exec_je (rx : RxAddr) (s : State) : exec (.je rx) s = execJe rx s := rfl
@[simp] theorem exec_jer (r2 : Reg) (s : State) : exec (.jer r2) s = execJer r2 s := rfl
@[simp] theorem exec_jebs (n : Nib) (s : State) : exec (.jebs n) s = execJebs n s := rfl
@[simp] theorem exec_jefs (n : Nib) (s : State) : exec (.jefs n) s = execJefs n s := rfl
@[simp] theorem exec_jn (rx : RxAddr) (s : State) : exec (.jn rx) s = execJn rx s := rfl
@[simp] theorem exec_jnr (r2 : Reg) (s : State) : exec (.jnr r2) s = execJnr r2 s := rfl
@[simp] theorem exec_jnbs (n : Nib) (s : State) : exec (.jnbs n) s = execJnbs n s := rfl
@[simp] theorem exec_jnfs (n : Nib) (s : State) : exec (.jnfs n) s = execJnfs n s := rfl
@[simp] theorem exec_jg (rx : RxAddr) (s : State) : exec (.jg rx) s = execJg rx s := rfl
@[simp] theorem exec_jgr (r2 : Reg) (s : State) : exec (.jgr r2) s = execJgr r2 s := rfl
@[simp] theorem exec_jgbs (n : Nib) (s : State) : exec (.jgbs n) s = execJgbs n s := rfl
@[simp] theorem exec_jgfs (n : Nib) (s : State) : exec (.jgfs n) s = execJgfs n s := rfl
@[simp] theorem exec_jge (rx : RxAddr) (s : State) : exec (.jge rx) s = execJge rx s := rfl
@[simp] theorem exec_jger (r2 : Reg) (s : State) : exec (.jger r2) s = execJger r2 s := rfl
@[simp] theorem exec_jgebs (n : Nib) (s : State) : exec (.jgebs n) s = execJgebs n s := rfl
@[simp] theorem exec_jgefs (n : Nib) (s : State) : exec (.jgefs n) s = execJgefs n s := rfl
@[simp] theorem exec_jle (rx : RxAddr) (s : State) : exec (.jle rx) s = execJle rx s := rfl
@[simp] theorem exec_jler (r2 : Reg) (s : State) : exec (.jler r2) s = execJler r2 s := rfl
@[simp] theorem exec_jlebs (n : Nib) (s : State) : exec (.jlebs n) s = execJlebs n s := rfl
@[simp] theorem exec_jlefs (n : Nib) (s : State) : exec (.jlefs n) s = execJlefs n s := rfl
@[simp] theorem exec_jl (rx : RxAddr) (s : State) : exec (.jl rx) s = execJl rx s := rfl
@[simp] theorem exec_jlr (r2 : Reg) (s : State) : exec (.jlr r2) s = execJlr r2 s := rfl
@[simp] theorem exec_jlbs (n : Nib) (s : State) : exec (.jlbs n) s = execJlbs n s := rfl
@[simp] theorem exec_jlfs (n : Nib) (s : State) : exec (.jlfs n) s = execJlfs n s := rfl
@[simp] theorem exec_jc (rx : RxAddr) (s : State) : exec (.jc rx) s = execJc rx s := rfl
@[simp] theorem exec_jcr (r2 : Reg) (s : State) : exec (.jcr r2) s = execJcr r2 s := rfl
@[simp] theorem exec_jcbs (n : Nib) (s : State) : exec (.jcbs n) s = execJcbs n s := rfl
@[simp] theorem exec_jcfs (n : Nib) (s : State) : exec (.jcfs n) s = execJcfs n s := rfl
@[simp] theorem exec_jnc (rx : RxAddr) (s : State) : exec (.jnc rx) s = execJnc rx s := rfl
@[simp] theorem exec_jncr (r2 : Reg) (s : State) : exec (.jncr r2) s = execJncr r2 s := rfl
@[simp] theorem exec_jncbs (n : Nib) (s : State) : exec (.jncbs n) s = execJncbs n s := rfl
@[simp] theorem exec_jncfs (n : Nib) (s : State) : exec (.jncfs n) s = execJncfs n s := rfl

end Sys2Proof.Machine
end

