-- ==== Sys2Proof/Laws/State.lean ====
section
/-! SUPPORT. One lemma for each field of State under each update, all by rfl, so that no proof unfolds
a record update; and the registers under a register write. -/

namespace Sys2Proof.Machine

@[simp] theorem State.setPc_regs (s : State) (a : Addr) : (s.setPc a).regs = s.regs := rfl
@[simp] theorem State.setPc_pc (s : State) (a : Addr) : (s.setPc a).pc = a := rfl
@[simp] theorem State.setPc_psw (s : State) (a : Addr) : (s.setPc a).psw = s.psw := rfl
@[simp] theorem State.setPc_mem (s : State) (a : Addr) : (s.setPc a).mem = s.mem := rfl
@[simp] theorem State.setPc_macDesc (s : State) (a : Addr) : (s.setPc a).macDesc = s.macDesc := rfl
@[simp] theorem State.setPc_macStatus (s : State) (a : Addr) :
    (s.setPc a).macStatus = s.macStatus := rfl
@[simp] theorem State.setPc_lastFetchAbs (s : State) (a : Addr) :
    (s.setPc a).lastFetchAbs = s.lastFetchAbs := rfl
@[simp] theorem State.setPc_parityAddr (s : State) (a : Addr) :
    (s.setPc a).parityAddr = s.parityAddr := rfl
@[simp] theorem State.setPc_lastFetchVirt (s : State) (a : Addr) :
    (s.setPc a).lastFetchVirt = s.lastFetchVirt := rfl
@[simp] theorem State.setPc_displayLeft (s : State) (a : Addr) :
    (s.setPc a).displayLeft = s.displayLeft := rfl
@[simp] theorem State.setPc_displayRight (s : State) (a : Addr) :
    (s.setPc a).displayRight = s.displayRight := rfl
@[simp] theorem State.setPc_switches (s : State) (a : Addr) :
    (s.setPc a).switches = s.switches := rfl
@[simp] theorem State.setPc_pend (s : State) (a : Addr) : (s.setPc a).pend = s.pend := rfl
@[simp] theorem State.setPc_requests (s : State) (a : Addr) :
    (s.setPc a).requests = s.requests := rfl
@[simp] theorem State.setPc_halt (s : State) (a : Addr) : (s.setPc a).halt = s.halt := rfl
@[simp] theorem State.setPc_params (s : State) (a : Addr) : (s.setPc a).params = s.params := rfl
@[simp] theorem State.setPc_env (s : State) (a : Addr) : (s.setPc a).env = s.env := rfl
@[simp] theorem State.setPc_busIn (s : State) (a : Addr) : (s.setPc a).busIn = s.busIn := rfl
@[simp] theorem State.setPc_busOut (s : State) (a : Addr) : (s.setPc a).busOut = s.busOut := rfl
@[simp] theorem State.setPc_copyBreak (s : State) (a : Addr) :
    (s.setPc a).copyBreak = s.copyBreak := rfl
@[simp] theorem State.setPc_parityBreak (s : State) (a : Addr) :
    (s.setPc a).parityBreak = s.parityBreak := rfl
@[simp] theorem State.setPc_freeIx (s : State) (a : Addr) : (s.setPc a).freeIx = s.freeIx := rfl

@[simp] theorem State.setPsw_regs (s : State) (q : Psw) : (s.setPsw q).regs = s.regs := rfl
@[simp] theorem State.setPsw_pc (s : State) (q : Psw) : (s.setPsw q).pc = s.pc := rfl
@[simp] theorem State.setPsw_psw (s : State) (q : Psw) : (s.setPsw q).psw = q := rfl
@[simp] theorem State.setPsw_mem (s : State) (q : Psw) : (s.setPsw q).mem = s.mem := rfl
@[simp] theorem State.setPsw_macDesc (s : State) (q : Psw) : (s.setPsw q).macDesc = s.macDesc := rfl
@[simp] theorem State.setPsw_macStatus (s : State) (q : Psw) :
    (s.setPsw q).macStatus = s.macStatus := rfl
@[simp] theorem State.setPsw_lastFetchAbs (s : State) (q : Psw) :
    (s.setPsw q).lastFetchAbs = s.lastFetchAbs := rfl
@[simp] theorem State.setPsw_parityAddr (s : State) (q : Psw) :
    (s.setPsw q).parityAddr = s.parityAddr := rfl
@[simp] theorem State.setPsw_lastFetchVirt (s : State) (q : Psw) :
    (s.setPsw q).lastFetchVirt = s.lastFetchVirt := rfl
@[simp] theorem State.setPsw_displayLeft (s : State) (q : Psw) :
    (s.setPsw q).displayLeft = s.displayLeft := rfl
@[simp] theorem State.setPsw_displayRight (s : State) (q : Psw) :
    (s.setPsw q).displayRight = s.displayRight := rfl
@[simp] theorem State.setPsw_switches (s : State) (q : Psw) :
    (s.setPsw q).switches = s.switches := rfl
@[simp] theorem State.setPsw_pend (s : State) (q : Psw) : (s.setPsw q).pend = s.pend := rfl
@[simp] theorem State.setPsw_requests (s : State) (q : Psw) :
    (s.setPsw q).requests = s.requests := rfl
@[simp] theorem State.setPsw_halt (s : State) (q : Psw) : (s.setPsw q).halt = s.halt := rfl
@[simp] theorem State.setPsw_params (s : State) (q : Psw) : (s.setPsw q).params = s.params := rfl
@[simp] theorem State.setPsw_env (s : State) (q : Psw) : (s.setPsw q).env = s.env := rfl
@[simp] theorem State.setPsw_busIn (s : State) (q : Psw) : (s.setPsw q).busIn = s.busIn := rfl
@[simp] theorem State.setPsw_busOut (s : State) (q : Psw) : (s.setPsw q).busOut = s.busOut := rfl
@[simp] theorem State.setPsw_copyBreak (s : State) (q : Psw) :
    (s.setPsw q).copyBreak = s.copyBreak := rfl
@[simp] theorem State.setPsw_parityBreak (s : State) (q : Psw) :
    (s.setPsw q).parityBreak = s.parityBreak := rfl
@[simp] theorem State.setPsw_freeIx (s : State) (q : Psw) : (s.setPsw q).freeIx = s.freeIx := rfl

@[simp] theorem State.setFlags_regs (s : State) (f : Flags) : (s.setFlags f).regs = s.regs := rfl
@[simp] theorem State.setFlags_pc (s : State) (f : Flags) : (s.setFlags f).pc = s.pc := rfl
@[simp] theorem State.setFlags_psw (s : State) (f : Flags) :
    (s.setFlags f).psw = { s.psw with c := f.c, v := f.v, g := f.g, l := f.l } := rfl
@[simp] theorem State.setFlags_mem (s : State) (f : Flags) : (s.setFlags f).mem = s.mem := rfl
@[simp] theorem State.setFlags_macDesc (s : State) (f : Flags) :
    (s.setFlags f).macDesc = s.macDesc := rfl
@[simp] theorem State.setFlags_macStatus (s : State) (f : Flags) :
    (s.setFlags f).macStatus = s.macStatus := rfl
@[simp] theorem State.setFlags_lastFetchAbs (s : State) (f : Flags) :
    (s.setFlags f).lastFetchAbs = s.lastFetchAbs := rfl
@[simp] theorem State.setFlags_parityAddr (s : State) (f : Flags) :
    (s.setFlags f).parityAddr = s.parityAddr := rfl
@[simp] theorem State.setFlags_lastFetchVirt (s : State) (f : Flags) :
    (s.setFlags f).lastFetchVirt = s.lastFetchVirt := rfl
@[simp] theorem State.setFlags_displayLeft (s : State) (f : Flags) :
    (s.setFlags f).displayLeft = s.displayLeft := rfl
@[simp] theorem State.setFlags_displayRight (s : State) (f : Flags) :
    (s.setFlags f).displayRight = s.displayRight := rfl
@[simp] theorem State.setFlags_switches (s : State) (f : Flags) :
    (s.setFlags f).switches = s.switches := rfl
@[simp] theorem State.setFlags_pend (s : State) (f : Flags) : (s.setFlags f).pend = s.pend := rfl
@[simp] theorem State.setFlags_requests (s : State) (f : Flags) :
    (s.setFlags f).requests = s.requests := rfl
@[simp] theorem State.setFlags_halt (s : State) (f : Flags) : (s.setFlags f).halt = s.halt := rfl
@[simp] theorem State.setFlags_params (s : State) (f : Flags) :
    (s.setFlags f).params = s.params := rfl
@[simp] theorem State.setFlags_env (s : State) (f : Flags) : (s.setFlags f).env = s.env := rfl
@[simp] theorem State.setFlags_busIn (s : State) (f : Flags) : (s.setFlags f).busIn = s.busIn := rfl
@[simp] theorem State.setFlags_busOut (s : State) (f : Flags) :
    (s.setFlags f).busOut = s.busOut := rfl
@[simp] theorem State.setFlags_copyBreak (s : State) (f : Flags) :
    (s.setFlags f).copyBreak = s.copyBreak := rfl
@[simp] theorem State.setFlags_parityBreak (s : State) (f : Flags) :
    (s.setFlags f).parityBreak = s.parityBreak := rfl
@[simp] theorem State.setFlags_freeIx (s : State) (f : Flags) :
    (s.setFlags f).freeIx = s.freeIx := rfl

@[simp] theorem State.setMacPending_regs (s : State) (b : Bool) :
    (s.setMacPending b).regs = s.regs := rfl
@[simp] theorem State.setMacPending_pc (s : State) (b : Bool) : (s.setMacPending b).pc = s.pc := rfl
@[simp] theorem State.setMacPending_psw (s : State) (b : Bool) :
    (s.setMacPending b).psw = s.psw := rfl
@[simp] theorem State.setMacPending_mem (s : State) (b : Bool) :
    (s.setMacPending b).mem = s.mem := rfl
@[simp] theorem State.setMacPending_macDesc (s : State) (b : Bool) :
    (s.setMacPending b).macDesc = s.macDesc := rfl
@[simp] theorem State.setMacPending_macStatus (s : State) (b : Bool) :
    (s.setMacPending b).macStatus = s.macStatus := rfl
@[simp] theorem State.setMacPending_lastFetchAbs (s : State) (b : Bool) :
    (s.setMacPending b).lastFetchAbs = s.lastFetchAbs := rfl
@[simp] theorem State.setMacPending_parityAddr (s : State) (b : Bool) :
    (s.setMacPending b).parityAddr = s.parityAddr := rfl
@[simp] theorem State.setMacPending_lastFetchVirt (s : State) (b : Bool) :
    (s.setMacPending b).lastFetchVirt = s.lastFetchVirt := rfl
@[simp] theorem State.setMacPending_displayLeft (s : State) (b : Bool) :
    (s.setMacPending b).displayLeft = s.displayLeft := rfl
@[simp] theorem State.setMacPending_displayRight (s : State) (b : Bool) :
    (s.setMacPending b).displayRight = s.displayRight := rfl
@[simp] theorem State.setMacPending_switches (s : State) (b : Bool) :
    (s.setMacPending b).switches = s.switches := rfl
@[simp] theorem State.setMacPending_pend (s : State) (b : Bool) :
    (s.setMacPending b).pend = { s.pend with mac := b } := rfl
@[simp] theorem State.setMacPending_requests (s : State) (b : Bool) :
    (s.setMacPending b).requests = s.requests := rfl
@[simp] theorem State.setMacPending_halt (s : State) (b : Bool) :
    (s.setMacPending b).halt = s.halt := rfl
@[simp] theorem State.setMacPending_params (s : State) (b : Bool) :
    (s.setMacPending b).params = s.params := rfl
@[simp] theorem State.setMacPending_env (s : State) (b : Bool) :
    (s.setMacPending b).env = s.env := rfl
@[simp] theorem State.setMacPending_busIn (s : State) (b : Bool) :
    (s.setMacPending b).busIn = s.busIn := rfl
@[simp] theorem State.setMacPending_busOut (s : State) (b : Bool) :
    (s.setMacPending b).busOut = s.busOut := rfl
@[simp] theorem State.setMacPending_copyBreak (s : State) (b : Bool) :
    (s.setMacPending b).copyBreak = s.copyBreak := rfl
@[simp] theorem State.setMacPending_parityBreak (s : State) (b : Bool) :
    (s.setMacPending b).parityBreak = s.parityBreak := rfl
@[simp] theorem State.setMacPending_freeIx (s : State) (b : Bool) :
    (s.setMacPending b).freeIx = s.freeIx := rfl
@[simp] theorem State.setMacWaiting_regs (s : State) (b : Bool) :
    (s.setMacWaiting b).regs = s.regs := rfl
@[simp] theorem State.setMacWaiting_pc (s : State) (b : Bool) : (s.setMacWaiting b).pc = s.pc := rfl
@[simp] theorem State.setMacWaiting_psw (s : State) (b : Bool) :
    (s.setMacWaiting b).psw = s.psw := rfl
@[simp] theorem State.setMacWaiting_mem (s : State) (b : Bool) :
    (s.setMacWaiting b).mem = s.mem := rfl
@[simp] theorem State.setMacWaiting_macDesc (s : State) (b : Bool) :
    (s.setMacWaiting b).macDesc = s.macDesc := rfl
@[simp] theorem State.setMacWaiting_macStatus (s : State) (b : Bool) :
    (s.setMacWaiting b).macStatus = s.macStatus := rfl
@[simp] theorem State.setMacWaiting_lastFetchAbs (s : State) (b : Bool) :
    (s.setMacWaiting b).lastFetchAbs = s.lastFetchAbs := rfl
@[simp] theorem State.setMacWaiting_parityAddr (s : State) (b : Bool) :
    (s.setMacWaiting b).parityAddr = s.parityAddr := rfl
@[simp] theorem State.setMacWaiting_lastFetchVirt (s : State) (b : Bool) :
    (s.setMacWaiting b).lastFetchVirt = s.lastFetchVirt := rfl
@[simp] theorem State.setMacWaiting_displayLeft (s : State) (b : Bool) :
    (s.setMacWaiting b).displayLeft = s.displayLeft := rfl
@[simp] theorem State.setMacWaiting_displayRight (s : State) (b : Bool) :
    (s.setMacWaiting b).displayRight = s.displayRight := rfl
@[simp] theorem State.setMacWaiting_switches (s : State) (b : Bool) :
    (s.setMacWaiting b).switches = s.switches := rfl
@[simp] theorem State.setMacWaiting_pend (s : State) (b : Bool) :
    (s.setMacWaiting b).pend = { s.pend with macWaiting := b } := rfl
@[simp] theorem State.setMacWaiting_requests (s : State) (b : Bool) :
    (s.setMacWaiting b).requests = s.requests := rfl
@[simp] theorem State.setMacWaiting_halt (s : State) (b : Bool) :
    (s.setMacWaiting b).halt = s.halt := rfl
@[simp] theorem State.setMacWaiting_params (s : State) (b : Bool) :
    (s.setMacWaiting b).params = s.params := rfl
@[simp] theorem State.setMacWaiting_env (s : State) (b : Bool) :
    (s.setMacWaiting b).env = s.env := rfl
@[simp] theorem State.setMacWaiting_busIn (s : State) (b : Bool) :
    (s.setMacWaiting b).busIn = s.busIn := rfl
@[simp] theorem State.setMacWaiting_busOut (s : State) (b : Bool) :
    (s.setMacWaiting b).busOut = s.busOut := rfl
@[simp] theorem State.setMacWaiting_copyBreak (s : State) (b : Bool) :
    (s.setMacWaiting b).copyBreak = s.copyBreak := rfl
@[simp] theorem State.setMacWaiting_parityBreak (s : State) (b : Bool) :
    (s.setMacWaiting b).parityBreak = s.parityBreak := rfl
@[simp] theorem State.setMacWaiting_freeIx (s : State) (b : Bool) :
    (s.setMacWaiting b).freeIx = s.freeIx := rfl

@[simp] theorem State.setMem_regs (s : State) (m : Memory) : (s.setMem m).regs = s.regs := rfl
@[simp] theorem State.setMem_pc (s : State) (m : Memory) : (s.setMem m).pc = s.pc := rfl
@[simp] theorem State.setMem_psw (s : State) (m : Memory) : (s.setMem m).psw = s.psw := rfl
@[simp] theorem State.setMem_mem (s : State) (m : Memory) : (s.setMem m).mem = m := rfl
@[simp] theorem State.setMem_macDesc (s : State) (m : Memory) :
    (s.setMem m).macDesc = s.macDesc := rfl
@[simp] theorem State.setMem_macStatus (s : State) (m : Memory) :
    (s.setMem m).macStatus = s.macStatus := rfl
@[simp] theorem State.setMem_lastFetchAbs (s : State) (m : Memory) :
    (s.setMem m).lastFetchAbs = s.lastFetchAbs := rfl
@[simp] theorem State.setMem_parityAddr (s : State) (m : Memory) :
    (s.setMem m).parityAddr = s.parityAddr := rfl
@[simp] theorem State.setMem_lastFetchVirt (s : State) (m : Memory) :
    (s.setMem m).lastFetchVirt = s.lastFetchVirt := rfl
@[simp] theorem State.setMem_displayLeft (s : State) (m : Memory) :
    (s.setMem m).displayLeft = s.displayLeft := rfl
@[simp] theorem State.setMem_displayRight (s : State) (m : Memory) :
    (s.setMem m).displayRight = s.displayRight := rfl
@[simp] theorem State.setMem_switches (s : State) (m : Memory) :
    (s.setMem m).switches = s.switches := rfl
@[simp] theorem State.setMem_pend (s : State) (m : Memory) : (s.setMem m).pend = s.pend := rfl
@[simp] theorem State.setMem_requests (s : State) (m : Memory) :
    (s.setMem m).requests = s.requests := rfl
@[simp] theorem State.setMem_halt (s : State) (m : Memory) : (s.setMem m).halt = s.halt := rfl
@[simp] theorem State.setMem_params (s : State) (m : Memory) : (s.setMem m).params = s.params := rfl
@[simp] theorem State.setMem_env (s : State) (m : Memory) : (s.setMem m).env = s.env := rfl
@[simp] theorem State.setMem_busIn (s : State) (m : Memory) : (s.setMem m).busIn = s.busIn := rfl
@[simp] theorem State.setMem_busOut (s : State) (m : Memory) : (s.setMem m).busOut = s.busOut := rfl
@[simp] theorem State.setMem_copyBreak (s : State) (m : Memory) :
    (s.setMem m).copyBreak = s.copyBreak := rfl
@[simp] theorem State.setMem_parityBreak (s : State) (m : Memory) :
    (s.setMem m).parityBreak = s.parityBreak := rfl
@[simp] theorem State.setMem_freeIx (s : State) (m : Memory) : (s.setMem m).freeIx = s.freeIx := rfl

@[simp] theorem State.tick_regs (s : State) : (s.tick).regs = s.regs := rfl
@[simp] theorem State.tick_pc (s : State) : (s.tick).pc = s.pc := rfl
@[simp] theorem State.tick_psw (s : State) : (s.tick).psw = s.psw := rfl
@[simp] theorem State.tick_mem (s : State) : (s.tick).mem = s.mem := rfl
@[simp] theorem State.tick_macDesc (s : State) : (s.tick).macDesc = s.macDesc := rfl
@[simp] theorem State.tick_macStatus (s : State) : (s.tick).macStatus = s.macStatus := rfl
@[simp] theorem State.tick_lastFetchAbs (s : State) : (s.tick).lastFetchAbs = s.lastFetchAbs := rfl
@[simp] theorem State.tick_parityAddr (s : State) : (s.tick).parityAddr = s.parityAddr := rfl
@[simp] theorem State.tick_lastFetchVirt (s : State) :
    (s.tick).lastFetchVirt = s.lastFetchVirt := rfl
@[simp] theorem State.tick_displayLeft (s : State) : (s.tick).displayLeft = s.displayLeft := rfl
@[simp] theorem State.tick_displayRight (s : State) : (s.tick).displayRight = s.displayRight := rfl
@[simp] theorem State.tick_switches (s : State) : (s.tick).switches = s.switches := rfl
@[simp] theorem State.tick_pend (s : State) : (s.tick).pend = s.pend := rfl
@[simp] theorem State.tick_requests (s : State) : (s.tick).requests = s.requests := rfl
@[simp] theorem State.tick_halt (s : State) : (s.tick).halt = s.halt := rfl
@[simp] theorem State.tick_params (s : State) : (s.tick).params = s.params := rfl
@[simp] theorem State.tick_env (s : State) : (s.tick).env = s.env := rfl
@[simp] theorem State.tick_busIn (s : State) : (s.tick).busIn = s.busIn := rfl
@[simp] theorem State.tick_busOut (s : State) : (s.tick).busOut = s.busOut := rfl
@[simp] theorem State.tick_copyBreak (s : State) : (s.tick).copyBreak = s.copyBreak := rfl
@[simp] theorem State.tick_parityBreak (s : State) : (s.tick).parityBreak = s.parityBreak := rfl
@[simp] theorem State.tick_freeIx (s : State) : (s.tick).freeIx = s.freeIx + 1 := rfl

@[simp] theorem State.setRegIn_regs (s : State) (k : Nib) (r : Reg) (v : Word) :
    (s.setRegIn k r v).regs = s.regs.set (regIndex k r).val v (regIndex k r).isLt := rfl
@[simp] theorem State.setRegIn_pc (s : State) (k : Nib) (r : Reg) (v : Word) :
    (s.setRegIn k r v).pc = s.pc := rfl
@[simp] theorem State.setRegIn_psw (s : State) (k : Nib) (r : Reg) (v : Word) :
    (s.setRegIn k r v).psw = s.psw := rfl
@[simp] theorem State.setRegIn_mem (s : State) (k : Nib) (r : Reg) (v : Word) :
    (s.setRegIn k r v).mem = s.mem := rfl
@[simp] theorem State.setRegIn_macDesc (s : State) (k : Nib) (r : Reg) (v : Word) :
    (s.setRegIn k r v).macDesc = s.macDesc := rfl
@[simp] theorem State.setRegIn_macStatus (s : State) (k : Nib) (r : Reg) (v : Word) :
    (s.setRegIn k r v).macStatus = s.macStatus := rfl
@[simp] theorem State.setRegIn_lastFetchAbs (s : State) (k : Nib) (r : Reg) (v : Word) :
    (s.setRegIn k r v).lastFetchAbs = s.lastFetchAbs := rfl
@[simp] theorem State.setRegIn_parityAddr (s : State) (k : Nib) (r : Reg) (v : Word) :
    (s.setRegIn k r v).parityAddr = s.parityAddr := rfl
@[simp] theorem State.setRegIn_lastFetchVirt (s : State) (k : Nib) (r : Reg) (v : Word) :
    (s.setRegIn k r v).lastFetchVirt = s.lastFetchVirt := rfl
@[simp] theorem State.setRegIn_displayLeft (s : State) (k : Nib) (r : Reg) (v : Word) :
    (s.setRegIn k r v).displayLeft = s.displayLeft := rfl
@[simp] theorem State.setRegIn_displayRight (s : State) (k : Nib) (r : Reg) (v : Word) :
    (s.setRegIn k r v).displayRight = s.displayRight := rfl
@[simp] theorem State.setRegIn_switches (s : State) (k : Nib) (r : Reg) (v : Word) :
    (s.setRegIn k r v).switches = s.switches := rfl
@[simp] theorem State.setRegIn_pend (s : State) (k : Nib) (r : Reg) (v : Word) :
    (s.setRegIn k r v).pend = s.pend := rfl
@[simp] theorem State.setRegIn_requests (s : State) (k : Nib) (r : Reg) (v : Word) :
    (s.setRegIn k r v).requests = s.requests := rfl
@[simp] theorem State.setRegIn_halt (s : State) (k : Nib) (r : Reg) (v : Word) :
    (s.setRegIn k r v).halt = s.halt := rfl
@[simp] theorem State.setRegIn_params (s : State) (k : Nib) (r : Reg) (v : Word) :
    (s.setRegIn k r v).params = s.params := rfl
@[simp] theorem State.setRegIn_env (s : State) (k : Nib) (r : Reg) (v : Word) :
    (s.setRegIn k r v).env = s.env := rfl
@[simp] theorem State.setRegIn_busIn (s : State) (k : Nib) (r : Reg) (v : Word) :
    (s.setRegIn k r v).busIn = s.busIn := rfl
@[simp] theorem State.setRegIn_busOut (s : State) (k : Nib) (r : Reg) (v : Word) :
    (s.setRegIn k r v).busOut = s.busOut := rfl
@[simp] theorem State.setRegIn_copyBreak (s : State) (k : Nib) (r : Reg) (v : Word) :
    (s.setRegIn k r v).copyBreak = s.copyBreak := rfl
@[simp] theorem State.setRegIn_parityBreak (s : State) (k : Nib) (r : Reg) (v : Word) :
    (s.setRegIn k r v).parityBreak = s.parityBreak := rfl
@[simp] theorem State.setRegIn_freeIx (s : State) (k : Nib) (r : Reg) (v : Word) :
    (s.setRegIn k r v).freeIx = s.freeIx := rfl

@[simp] theorem State.setReg_regs (s : State) (r : Reg) (v : Word) :
    (s.setReg r v).regs = s.regs.set (regIndex s.psw.rs r).val v (regIndex s.psw.rs r).isLt := rfl
@[simp] theorem State.setReg_pc (s : State) (r : Reg) (v : Word) : (s.setReg r v).pc = s.pc := rfl
@[simp] theorem State.setReg_psw (s : State) (r : Reg) (v : Word) :
    (s.setReg r v).psw = s.psw := rfl
@[simp] theorem State.setReg_mem (s : State) (r : Reg) (v : Word) :
    (s.setReg r v).mem = s.mem := rfl
@[simp] theorem State.setReg_macDesc (s : State) (r : Reg) (v : Word) :
    (s.setReg r v).macDesc = s.macDesc := rfl
@[simp] theorem State.setReg_macStatus (s : State) (r : Reg) (v : Word) :
    (s.setReg r v).macStatus = s.macStatus := rfl
@[simp] theorem State.setReg_lastFetchAbs (s : State) (r : Reg) (v : Word) :
    (s.setReg r v).lastFetchAbs = s.lastFetchAbs := rfl
@[simp] theorem State.setReg_parityAddr (s : State) (r : Reg) (v : Word) :
    (s.setReg r v).parityAddr = s.parityAddr := rfl
@[simp] theorem State.setReg_lastFetchVirt (s : State) (r : Reg) (v : Word) :
    (s.setReg r v).lastFetchVirt = s.lastFetchVirt := rfl
@[simp] theorem State.setReg_displayLeft (s : State) (r : Reg) (v : Word) :
    (s.setReg r v).displayLeft = s.displayLeft := rfl
@[simp] theorem State.setReg_displayRight (s : State) (r : Reg) (v : Word) :
    (s.setReg r v).displayRight = s.displayRight := rfl
@[simp] theorem State.setReg_switches (s : State) (r : Reg) (v : Word) :
    (s.setReg r v).switches = s.switches := rfl
@[simp] theorem State.setReg_pend (s : State) (r : Reg) (v : Word) :
    (s.setReg r v).pend = s.pend := rfl
@[simp] theorem State.setReg_requests (s : State) (r : Reg) (v : Word) :
    (s.setReg r v).requests = s.requests := rfl
@[simp] theorem State.setReg_halt (s : State) (r : Reg) (v : Word) :
    (s.setReg r v).halt = s.halt := rfl
@[simp] theorem State.setReg_params (s : State) (r : Reg) (v : Word) :
    (s.setReg r v).params = s.params := rfl
@[simp] theorem State.setReg_env (s : State) (r : Reg) (v : Word) :
    (s.setReg r v).env = s.env := rfl
@[simp] theorem State.setReg_busIn (s : State) (r : Reg) (v : Word) :
    (s.setReg r v).busIn = s.busIn := rfl
@[simp] theorem State.setReg_busOut (s : State) (r : Reg) (v : Word) :
    (s.setReg r v).busOut = s.busOut := rfl
@[simp] theorem State.setReg_copyBreak (s : State) (r : Reg) (v : Word) :
    (s.setReg r v).copyBreak = s.copyBreak := rfl
@[simp] theorem State.setReg_parityBreak (s : State) (r : Reg) (v : Word) :
    (s.setReg r v).parityBreak = s.parityBreak := rfl
@[simp] theorem State.setReg_freeIx (s : State) (r : Reg) (v : Word) :
    (s.setReg r v).freeIx = s.freeIx := rfl

@[simp] theorem State.setDescriptorHalf_regs (s : State) (a : Addr) (h : Half) :
    (s.setDescriptorHalf a h).regs = s.regs := rfl
@[simp] theorem State.setDescriptorHalf_pc (s : State) (a : Addr) (h : Half) :
    (s.setDescriptorHalf a h).pc = s.pc := rfl
@[simp] theorem State.setDescriptorHalf_psw (s : State) (a : Addr) (h : Half) :
    (s.setDescriptorHalf a h).psw = s.psw := rfl
@[simp] theorem State.setDescriptorHalf_mem (s : State) (a : Addr) (h : Half) :
    (s.setDescriptorHalf a h).mem = s.mem := rfl
@[simp] theorem State.setDescriptorHalf_macStatus (s : State) (a : Addr) (h : Half) :
    (s.setDescriptorHalf a h).macStatus = s.macStatus := rfl
@[simp] theorem State.setDescriptorHalf_lastFetchAbs (s : State) (a : Addr) (h : Half) :
    (s.setDescriptorHalf a h).lastFetchAbs = s.lastFetchAbs := rfl
@[simp] theorem State.setDescriptorHalf_parityAddr (s : State) (a : Addr) (h : Half) :
    (s.setDescriptorHalf a h).parityAddr = s.parityAddr := rfl
@[simp] theorem State.setDescriptorHalf_lastFetchVirt (s : State) (a : Addr) (h : Half) :
    (s.setDescriptorHalf a h).lastFetchVirt = s.lastFetchVirt := rfl
@[simp] theorem State.setDescriptorHalf_displayLeft (s : State) (a : Addr) (h : Half) :
    (s.setDescriptorHalf a h).displayLeft = s.displayLeft := rfl
@[simp] theorem State.setDescriptorHalf_displayRight (s : State) (a : Addr) (h : Half) :
    (s.setDescriptorHalf a h).displayRight = s.displayRight := rfl
@[simp] theorem State.setDescriptorHalf_switches (s : State) (a : Addr) (h : Half) :
    (s.setDescriptorHalf a h).switches = s.switches := rfl
@[simp] theorem State.setDescriptorHalf_pend (s : State) (a : Addr) (h : Half) :
    (s.setDescriptorHalf a h).pend = s.pend := rfl
@[simp] theorem State.setDescriptorHalf_requests (s : State) (a : Addr) (h : Half) :
    (s.setDescriptorHalf a h).requests = s.requests := rfl
@[simp] theorem State.setDescriptorHalf_halt (s : State) (a : Addr) (h : Half) :
    (s.setDescriptorHalf a h).halt = s.halt := rfl
@[simp] theorem State.setDescriptorHalf_params (s : State) (a : Addr) (h : Half) :
    (s.setDescriptorHalf a h).params = s.params := rfl
@[simp] theorem State.setDescriptorHalf_env (s : State) (a : Addr) (h : Half) :
    (s.setDescriptorHalf a h).env = s.env := rfl
@[simp] theorem State.setDescriptorHalf_busIn (s : State) (a : Addr) (h : Half) :
    (s.setDescriptorHalf a h).busIn = s.busIn := rfl
@[simp] theorem State.setDescriptorHalf_busOut (s : State) (a : Addr) (h : Half) :
    (s.setDescriptorHalf a h).busOut = s.busOut := rfl
@[simp] theorem State.setDescriptorHalf_copyBreak (s : State) (a : Addr) (h : Half) :
    (s.setDescriptorHalf a h).copyBreak = s.copyBreak := rfl
@[simp] theorem State.setDescriptorHalf_parityBreak (s : State) (a : Addr) (h : Half) :
    (s.setDescriptorHalf a h).parityBreak = s.parityBreak := rfl
@[simp] theorem State.setDescriptorHalf_freeIx (s : State) (a : Addr) (h : Half) :
    (s.setDescriptorHalf a h).freeIx = s.freeIx := rfl

@[simp] theorem State.scribble_regs (s : State) : (s.scribble).regs = s.regs := rfl
@[simp] theorem State.scribble_pc (s : State) : (s.scribble).pc = s.pc := rfl
@[simp] theorem State.scribble_psw (s : State) : (s.scribble).psw = s.psw := rfl
@[simp] theorem State.scribble_mem (s : State) :
    (s.scribble).mem = Memory.scribbled s.programPlace (Config.freeStores s.freeIx) s.mem := rfl
@[simp] theorem State.scribble_macDesc (s : State) : (s.scribble).macDesc = s.macDesc := rfl
@[simp] theorem State.scribble_macStatus (s : State) : (s.scribble).macStatus = s.macStatus := rfl
@[simp] theorem State.scribble_lastFetchAbs (s : State) :
    (s.scribble).lastFetchAbs = s.lastFetchAbs := rfl
@[simp] theorem State.scribble_parityAddr (s : State) :
    (s.scribble).parityAddr = s.parityAddr := rfl
@[simp] theorem State.scribble_lastFetchVirt (s : State) :
    (s.scribble).lastFetchVirt = s.lastFetchVirt := rfl
@[simp] theorem State.scribble_displayLeft (s : State) :
    (s.scribble).displayLeft = s.displayLeft := rfl
@[simp] theorem State.scribble_displayRight (s : State) :
    (s.scribble).displayRight = s.displayRight := rfl
@[simp] theorem State.scribble_switches (s : State) : (s.scribble).switches = s.switches := rfl
@[simp] theorem State.scribble_pend (s : State) : (s.scribble).pend = s.pend := rfl
@[simp] theorem State.scribble_requests (s : State) : (s.scribble).requests = s.requests := rfl
@[simp] theorem State.scribble_halt (s : State) : (s.scribble).halt = s.halt := rfl
@[simp] theorem State.scribble_params (s : State) : (s.scribble).params = s.params := rfl
@[simp] theorem State.scribble_env (s : State) : (s.scribble).env = s.env := rfl
@[simp] theorem State.scribble_busIn (s : State) : (s.scribble).busIn = s.busIn := rfl
@[simp] theorem State.scribble_busOut (s : State) : (s.scribble).busOut = s.busOut := rfl
@[simp] theorem State.scribble_copyBreak (s : State) : (s.scribble).copyBreak = s.copyBreak := rfl
@[simp] theorem State.scribble_parityBreak (s : State) :
    (s.scribble).parityBreak = s.parityBreak := rfl
@[simp] theorem State.scribble_freeIx (s : State) : (s.scribble).freeIx = s.freeIx + 1 := rfl

@[simp] theorem State.openHalf_regs (s : State) (ea : Word) : (s.openHalf ea).regs = s.regs := rfl
@[simp] theorem State.openHalf_pc (s : State) (ea : Word) : (s.openHalf ea).pc = s.pc := rfl
@[simp] theorem State.openHalf_psw (s : State) (ea : Word) : (s.openHalf ea).psw = s.psw := rfl
@[simp] theorem State.openHalf_mem (s : State) (ea : Word) :
    (s.openHalf ea).mem = Memory.scribbled s.programPlace [(programAddr ea, s.free.setWidth 16)] s.mem := rfl
@[simp] theorem State.openHalf_macDesc (s : State) (ea : Word) :
    (s.openHalf ea).macDesc = s.macDesc := rfl
@[simp] theorem State.openHalf_macStatus (s : State) (ea : Word) :
    (s.openHalf ea).macStatus = s.macStatus := rfl
@[simp] theorem State.openHalf_lastFetchAbs (s : State) (ea : Word) :
    (s.openHalf ea).lastFetchAbs = s.lastFetchAbs := rfl
@[simp] theorem State.openHalf_parityAddr (s : State) (ea : Word) :
    (s.openHalf ea).parityAddr = s.parityAddr := rfl
@[simp] theorem State.openHalf_lastFetchVirt (s : State) (ea : Word) :
    (s.openHalf ea).lastFetchVirt = s.lastFetchVirt := rfl
@[simp] theorem State.openHalf_displayLeft (s : State) (ea : Word) :
    (s.openHalf ea).displayLeft = s.displayLeft := rfl
@[simp] theorem State.openHalf_displayRight (s : State) (ea : Word) :
    (s.openHalf ea).displayRight = s.displayRight := rfl
@[simp] theorem State.openHalf_switches (s : State) (ea : Word) :
    (s.openHalf ea).switches = s.switches := rfl
@[simp] theorem State.openHalf_pend (s : State) (ea : Word) : (s.openHalf ea).pend = s.pend := rfl
@[simp] theorem State.openHalf_requests (s : State) (ea : Word) :
    (s.openHalf ea).requests = s.requests := rfl
@[simp] theorem State.openHalf_halt (s : State) (ea : Word) : (s.openHalf ea).halt = s.halt := rfl
@[simp] theorem State.openHalf_params (s : State) (ea : Word) :
    (s.openHalf ea).params = s.params := rfl
@[simp] theorem State.openHalf_env (s : State) (ea : Word) : (s.openHalf ea).env = s.env := rfl
@[simp] theorem State.openHalf_busIn (s : State) (ea : Word) :
    (s.openHalf ea).busIn = s.busIn := rfl
@[simp] theorem State.openHalf_busOut (s : State) (ea : Word) :
    (s.openHalf ea).busOut = s.busOut := rfl
@[simp] theorem State.openHalf_copyBreak (s : State) (ea : Word) :
    (s.openHalf ea).copyBreak = s.copyBreak := rfl
@[simp] theorem State.openHalf_parityBreak (s : State) (ea : Word) :
    (s.openHalf ea).parityBreak = s.parityBreak := rfl
@[simp] theorem State.openHalf_freeIx (s : State) (ea : Word) :
    (s.openHalf ea).freeIx = s.freeIx + 1 := rfl

@[simp] theorem State.begin_regs (s : State) : (s.begin).regs = s.regs := rfl
@[simp] theorem State.begin_pc (s : State) : (s.begin).pc = s.pc := rfl
@[simp] theorem State.begin_psw (s : State) : (s.begin).psw = s.psw := rfl
@[simp] theorem State.begin_mem (s : State) : (s.begin).mem = s.mem := rfl
@[simp] theorem State.begin_macDesc (s : State) : (s.begin).macDesc = s.macDesc := rfl
@[simp] theorem State.begin_macStatus (s : State) : (s.begin).macStatus = s.macStatus := rfl
@[simp] theorem State.begin_lastFetchAbs (s : State) :
    (s.begin).lastFetchAbs = s.lastFetchAbs := rfl
@[simp] theorem State.begin_parityAddr (s : State) : (s.begin).parityAddr = s.parityAddr := rfl
@[simp] theorem State.begin_lastFetchVirt (s : State) :
    (s.begin).lastFetchVirt = s.lastFetchVirt := rfl
@[simp] theorem State.begin_displayLeft (s : State) : (s.begin).displayLeft = s.displayLeft := rfl
@[simp] theorem State.begin_displayRight (s : State) :
    (s.begin).displayRight = s.displayRight := rfl
@[simp] theorem State.begin_switches (s : State) : (s.begin).switches = s.switches := rfl
@[simp] theorem State.begin_pend (s : State) : (s.begin).pend = { s.pend with mac := false } := rfl
@[simp] theorem State.begin_requests (s : State) : (s.begin).requests = s.requests := rfl
@[simp] theorem State.begin_halt (s : State) : (s.begin).halt = s.halt := rfl
@[simp] theorem State.begin_params (s : State) : (s.begin).params = s.params := rfl
@[simp] theorem State.begin_env (s : State) : (s.begin).env = s.env := rfl
@[simp] theorem State.begin_busIn (s : State) : (s.begin).busIn = s.busIn := rfl
@[simp] theorem State.begin_busOut (s : State) : (s.begin).busOut = s.busOut := rfl
@[simp] theorem State.begin_copyBreak (s : State) : (s.begin).copyBreak = s.copyBreak := rfl
@[simp] theorem State.begin_parityBreak (s : State) : (s.begin).parityBreak = s.parityBreak := rfl
@[simp] theorem State.begin_freeIx (s : State) : (s.begin).freeIx = s.freeIx := rfl

@[simp] theorem State.noteFetch_regs (s : State) : (s.noteFetch).regs = s.regs := rfl
@[simp] theorem State.noteFetch_pc (s : State) : (s.noteFetch).pc = s.pc := rfl
@[simp] theorem State.noteFetch_psw (s : State) : (s.noteFetch).psw = s.psw := rfl
@[simp] theorem State.noteFetch_mem (s : State) : (s.noteFetch).mem = s.mem := rfl
@[simp] theorem State.noteFetch_macDesc (s : State) : (s.noteFetch).macDesc = s.macDesc := rfl
@[simp] theorem State.noteFetch_macStatus (s : State) : (s.noteFetch).macStatus = s.macStatus := rfl
@[simp] theorem State.noteFetch_lastFetchAbs (s : State) :
    (s.noteFetch).lastFetchAbs = s.free := rfl
@[simp] theorem State.noteFetch_parityAddr (s : State) :
    (s.noteFetch).parityAddr = s.parityAddr := rfl
@[simp] theorem State.noteFetch_lastFetchVirt (s : State) :
    (s.noteFetch).lastFetchVirt = s.tick.free := rfl
@[simp] theorem State.noteFetch_displayLeft (s : State) :
    (s.noteFetch).displayLeft = s.displayLeft := rfl
@[simp] theorem State.noteFetch_displayRight (s : State) :
    (s.noteFetch).displayRight = s.displayRight := rfl
@[simp] theorem State.noteFetch_switches (s : State) : (s.noteFetch).switches = s.switches := rfl
@[simp] theorem State.noteFetch_pend (s : State) : (s.noteFetch).pend = s.pend := rfl
@[simp] theorem State.noteFetch_requests (s : State) : (s.noteFetch).requests = s.requests := rfl
@[simp] theorem State.noteFetch_halt (s : State) : (s.noteFetch).halt = s.halt := rfl
@[simp] theorem State.noteFetch_params (s : State) : (s.noteFetch).params = s.params := rfl
@[simp] theorem State.noteFetch_env (s : State) : (s.noteFetch).env = s.env := rfl
@[simp] theorem State.noteFetch_busIn (s : State) : (s.noteFetch).busIn = s.busIn := rfl
@[simp] theorem State.noteFetch_busOut (s : State) : (s.noteFetch).busOut = s.busOut := rfl
@[simp] theorem State.noteFetch_copyBreak (s : State) : (s.noteFetch).copyBreak = s.copyBreak := rfl
@[simp] theorem State.noteFetch_parityBreak (s : State) :
    (s.noteFetch).parityBreak = s.parityBreak := rfl
@[simp] theorem State.noteFetch_freeIx (s : State) : (s.noteFetch).freeIx = s.freeIx + 2 := rfl

@[simp] theorem State.nextEvents_regs (s : State) : (s.nextEvents).regs = s.regs := by
  unfold State.nextEvents State.reportParity
  split <;> rfl
@[simp] theorem State.nextEvents_pc (s : State) : (s.nextEvents).pc = s.pc := by
  unfold State.nextEvents State.reportParity
  split <;> rfl
@[simp] theorem State.nextEvents_psw (s : State) : (s.nextEvents).psw = s.psw := by
  unfold State.nextEvents State.reportParity
  split <;> rfl
@[simp] theorem State.nextEvents_mem (s : State) : (s.nextEvents).mem = s.mem := by
  unfold State.nextEvents State.reportParity
  split <;> rfl
@[simp] theorem State.nextEvents_macDesc (s : State) : (s.nextEvents).macDesc = s.macDesc := by
  unfold State.nextEvents State.reportParity
  split <;> rfl
@[simp] theorem State.nextEvents_macStatus (s : State) :
    (s.nextEvents).macStatus = s.macStatus := by
  unfold State.nextEvents State.reportParity
  split <;> rfl
@[simp] theorem State.nextEvents_lastFetchAbs (s : State) :
    (s.nextEvents).lastFetchAbs = s.lastFetchAbs := by
  unfold State.nextEvents State.reportParity
  split <;> rfl
@[simp] theorem State.nextEvents_lastFetchVirt (s : State) :
    (s.nextEvents).lastFetchVirt = s.lastFetchVirt := by
  unfold State.nextEvents State.reportParity
  split <;> rfl
@[simp] theorem State.nextEvents_displayLeft (s : State) :
    (s.nextEvents).displayLeft = s.displayLeft := by
  unfold State.nextEvents State.reportParity
  split <;> rfl
@[simp] theorem State.nextEvents_displayRight (s : State) :
    (s.nextEvents).displayRight = s.displayRight := by
  unfold State.nextEvents State.reportParity
  split <;> rfl
@[simp] theorem State.nextEvents_switches (s : State) : (s.nextEvents).switches = s.switches := by
  unfold State.nextEvents State.reportParity
  split <;> rfl
@[simp] theorem State.nextEvents_requests (s : State) : (s.nextEvents).requests = s.requests := by
  unfold State.nextEvents State.reportParity
  split <;> rfl
@[simp] theorem State.nextEvents_halt (s : State) : (s.nextEvents).halt = s.halt := by
  unfold State.nextEvents State.reportParity
  split <;> rfl
@[simp] theorem State.nextEvents_params (s : State) : (s.nextEvents).params = s.params := by
  unfold State.nextEvents State.reportParity
  split <;> rfl
@[simp] theorem State.nextEvents_env (s : State) : (s.nextEvents).env = s.env.tail := rfl
@[simp] theorem State.nextEvents_busIn (s : State) : (s.nextEvents).busIn = s.busIn := by
  unfold State.nextEvents State.reportParity
  split <;> rfl
@[simp] theorem State.nextEvents_busOut (s : State) : (s.nextEvents).busOut = s.busOut := by
  unfold State.nextEvents State.reportParity
  split <;> rfl
@[simp] theorem State.nextEvents_copyBreak (s : State) : (s.nextEvents).copyBreak = none := rfl

/-- The boundary reports the parity error of the instruction before, and forgets it. -/
@[simp] theorem State.nextEvents_parityBreak (s : State) : (s.nextEvents).parityBreak = none := by
  unfold State.nextEvents State.reportParity
  split <;> simp_all

/-- Of the pending conditions a boundary changes the parity error's alone. -/
theorem State.nextEvents_pend (s : State) :
    (s.nextEvents).pend = { s.pend with parityError := (s.nextEvents).pend.parityError } := by
  unfold State.nextEvents State.reportParity
  split <;> rfl

/-- A boundary after an instruction without a parity error. -/
theorem State.nextEvents_calm {s : State} (h : s.parityBreak = none) :
    s.nextEvents = { s with env := s.env.tail, copyBreak := none } := by
  simp [State.nextEvents, State.reportParity, h]

/-- The register just written reads as written. -/
@[simp] theorem State.regIn_setRegIn_same (s : State) (k : Nib) (r : Reg) (v : Word) :
    (s.setRegIn k r v).regIn k r = v := by
  simp [State.regIn, State.setRegIn]

/-- Two names of one register are equal. -/
theorem regIndex_inj (k k' : Nib) (r r' : Reg) (h : regIndex k r = regIndex k' r') :
    k = k' ∧ r = r' := by
  have h' : 16 * k.toNat + r.toNat = 16 * k'.toNat + r'.toNat := congrArg Fin.val h
  have := r.isLt
  have := r'.isLt
  exact ⟨BitVec.eq_of_toNat_eq (by omega), BitVec.eq_of_toNat_eq (by omega)⟩

/-- Every other register stays. -/
theorem State.regIn_setRegIn_other (s : State) (k k' : Nib) (r r' : Reg) (v : Word)
    (h : ¬(k' = k ∧ r' = r)) : (s.setRegIn k r v).regIn k' r' = s.regIn k' r' := by
  have hne : (regIndex k r).val ≠ (regIndex k' r').val := fun e =>
    h ⟨(regIndex_inj k k' r r' (Fin.ext e)).1.symm, (regIndex_inj k k' r r' (Fin.ext e)).2.symm⟩
  simp [State.regIn, State.setRegIn, Vector.getElem_set, hne]

/-- The register just written, in the selected set. -/
@[simp] theorem State.reg_setReg_same (s : State) (r : Reg) (v : Word) : (s.setReg r v).reg r = v := by
  simp [State.reg, State.setReg]

/-- Every other register of the selected set stays. -/
theorem State.reg_setReg_other (s : State) (r r' : Reg) (v : Word) (h : r' ≠ r) :
    (s.setReg r v).reg r' = s.reg r' := by
  simp only [State.reg, State.setReg, State.setRegIn_psw]
  exact s.regIn_setRegIn_other _ _ _ _ _ fun e => h e.2

/-- Registers do not depend on the other fields. -/
theorem State.reg_congr {s t : State} (hr : t.regs = s.regs) (hp : t.psw.rs = s.psw.rs) (r : Reg) :
    t.reg r = s.reg r := by
  simp [State.reg, State.regIn, hr, hp]

/-- An instruction that has not faulted writes what it says. -/
theorem State.writeReg_untainted (s : State) (r : Reg) (v : Word) (h : s.pend.mac = false) :
    s.writeReg r v = s.setReg r v := by
  simp [State.writeReg, h]

/-- The condition code of an instruction that has not faulted. -/
theorem State.writeFlags_untainted (s : State) (f : Flags) (h : s.pend.mac = false) :
    s.writeFlags f = s.setFlags f := by
  simp [State.writeFlags, h]

/-- A PSW loaded by an instruction that has not faulted. -/
theorem State.loadPsw_untainted (s : State) (q : Psw) (h : s.pend.mac = false) :
    s.loadPsw q = s.setPsw q := by
  simp [State.loadPsw, h]

/-- `CCload` in an instruction that has not faulted. -/
theorem State.loadFlags_untainted (s : State) (v : Word) (h : s.pend.mac = false) :
    s.loadFlags v = s.tick.setFlags (signFlags s.freeBit v) := by
  simp [State.loadFlags, State.writeFlags, h]

end Sys2Proof.Machine
end

