-- ==== Sys2Proof/Laws/Memory.lean ====
section
/-! SUPPORT. The laws of memory: a read after a write, and that every memory operation keeps the
canonical form. -/

namespace Sys2Proof.Machine

/-- A write leaves every other byte alone. -/
theorem Memory.read_write_other (m : Memory) (a x : Nat) (b : Byte) (h : x ≠ a) :
    (m.write a b).read x = m.read x := by
  induction m with
  | nil =>
    by_cases hb : b = unlistedByte <;> simp [Memory.write, Memory.read, hb, Ne.symm h]
  | cons c rest ih =>
    obtain ⟨k, v⟩ := c
    simp only [Memory.write]
    split
    · split <;> simp [Memory.read, Ne.symm h]
    · split
      · rename_i hk
        subst hk
        split <;> simp [Memory.read, Ne.symm h]
      · simp [Memory.read, ih]

/-- Below every listed address, everything reads as an unlisted byte. -/
theorem Memory.read_below (m : Memory) (a : Nat) (h : ∀ c ∈ m, a < c.1) : m.read a = unlistedByte := by
  induction m with
  | nil => rfl
  | cons c rest ih =>
    obtain ⟨k, v⟩ := c
    have hk : a < k := h (k, v) (by simp)
    simp only [Memory.read, Nat.ne_of_gt hk, if_false]
    exact ih fun c hc => h c (by simp [hc])

/-- The parts of the canonical form of a list with a head. -/
theorem Memory.wf_cons {k : Nat} {v : Byte} {rest : Memory} :
    Memory.wf ((k, v) :: rest) = true ↔
      k < 1048576 ∧ v ≠ unlistedByte ∧ (∀ c ∈ rest, k < c.1) ∧ Memory.wf rest = true := by
  simp [Memory.wf, Bool.and_eq_true, and_assoc]

/-- What a write lists was listed before, or is the address written. -/
theorem Memory.mem_write {m : Memory} {a : Nat} {b : Byte} {c : Host.Cell} (h : c ∈ m.write a b) :
    c.1 = a ∨ c ∈ m := by
  by_cases ha : c.1 = a
  · exact .inl ha
  refine .inr ?_
  have new : c ≠ (a, b) := fun e => ha (by rw [e])
  induction m with
  | nil =>
    rw [Memory.write] at h
    split at h <;> simp_all
  | cons d rest ih =>
    rw [Memory.write] at h
    split at h <;> split at h <;> (try split at h) <;> simp_all
    exact h.imp id ih

/-- A write inside the address space keeps the canonical form. -/
theorem Memory.wf_write {m : Memory} {a : Nat} {b : Byte} (h : m.wf = true) (ha : a < 1048576) :
    (m.write a b).wf = true := by
  induction m with
  | nil =>
    by_cases hb : b = unlistedByte <;> simp [Memory.write, Memory.wf, hb, ha]
  | cons c rest ih =>
    obtain ⟨k, v⟩ := c
    obtain ⟨hk, hv, hlt, hrest⟩ := Memory.wf_cons.1 h
    simp only [Memory.write]
    split
    · rename_i hak
      split
      · exact h
      · rename_i hb
        refine Memory.wf_cons.2 ⟨ha, hb, fun c hc => ?_, h⟩
        rcases List.mem_cons.1 hc with hc | hc
        · rw [hc]; exact hak
        · exact Nat.lt_trans hak (hlt c hc)
    · split
      · split
        · exact hrest
        · rename_i hak hb
          exact Memory.wf_cons.2 ⟨ha, hb, fun c hc => hak ▸ hlt c hc, hrest⟩
      · refine Memory.wf_cons.2 ⟨hk, hv, fun c hc => ?_, ih hrest⟩
        rcases Memory.mem_write hc with hc | hc
        · omega
        · exact hlt c hc

/-- In canonical memory the byte just written reads as written. -/
theorem Memory.read_write_same {m : Memory} {a : Nat} {b : Byte} (h : m.wf = true) :
    (m.write a b).read a = b := by
  induction m with
  | nil => by_cases hb : b = unlistedByte <;> simp [Memory.write, Memory.read, hb]
  | cons c rest ih =>
    obtain ⟨k, v⟩ := c
    obtain ⟨-, -, hlt, hrest⟩ := Memory.wf_cons.1 h
    simp only [Memory.write]
    split
    · rename_i hak
      split
      · rename_i hb
        rw [hb]
        refine Memory.read_below _ _ fun c hc => ?_
        rcases List.mem_cons.1 hc with hc | hc
        · rw [hc]; exact hak
        · exact Nat.lt_trans hak (hlt c hc)
      · simp [Memory.read]
    · split
      · rename_i hak
        split
        · rename_i hb
          rw [hb]
          exact Memory.read_below _ _ fun c hc => hak ▸ hlt c hc
        · simp [Memory.read]
      · rename_i hak
        simp [Memory.read, Ne.symm hak, ih hrest]

/-! ## Halfwords -/

/-- A halfword lies inside the address space. -/
theorem evenBase_lt (a : Addr) : evenBase a + 1 < 1048576 := by
  have := a.isLt
  unfold evenBase
  omega

/-- Writing a halfword keeps the canonical form. -/
theorem Memory.wf_setHalf {m : Memory} {a : Addr} {h : Half} (hw : m.wf = true) :
    (m.setHalf a h).wf = true :=
  Memory.wf_write (Memory.wf_write hw (by have := evenBase_lt a; omega)) (evenBase_lt a)

/-- Writing a halfword changes no byte outside it. -/
theorem Memory.read_setHalf_other {m : Memory} {a : Addr} {h : Half} {x : Nat} (h0 : x ≠ evenBase a)
    (h1 : x ≠ evenBase a + 1) : (m.setHalf a h).read x = m.read x := by
  rw [Memory.setHalf, Memory.read_write_other _ _ _ _ h1, Memory.read_write_other _ _ _ _ h0]

/-- The left byte of a halfword just written. -/
theorem Memory.read_setHalf_left {m : Memory} {a : Addr} {h : Half} (hw : m.wf = true) :
    (m.setHalf a h).read (evenBase a) = h.extractLsb' 8 8 := by
  rw [Memory.setHalf, Memory.read_write_other _ _ _ _ (by omega), Memory.read_write_same hw]

/-- The right byte of a halfword just written. -/
theorem Memory.read_setHalf_right {m : Memory} {a : Addr} {h : Half} (hw : m.wf = true) :
    (m.setHalf a h).read (evenBase a + 1) = h.setWidth 8 := by
  rw [Memory.setHalf, Memory.read_write_same (Memory.wf_write hw (by have := evenBase_lt a; omega))]

/-- A halfword is its two bytes, the left one first. -/
theorem bytes_of_half (h : Half) : h.extractLsb' 8 8 ++ (h.setWidth 8 : Byte) = h := by
  apply BitVec.eq_of_getLsbD_eq
  intro i hi
  rw [BitVec.getLsbD_append]
  by_cases h8 : i < 8
  · simp [h8, hi]
  · have e : 8 + (i - 8) = i := by omega
    have h9 : i - 8 < 8 := by omega
    simp [h8, e, h9]

/-- In canonical memory the halfword just written reads as written. -/
theorem Memory.half_setHalf_same {m : Memory} {a : Addr} {h : Half} (hw : m.wf = true) :
    (m.setHalf a h).half a = h := by
  rw [Memory.half, Memory.read_setHalf_left hw, Memory.read_setHalf_right hw]
  exact bytes_of_half h

/-- Writing a halfword leaves every other halfword alone. -/
theorem Memory.half_setHalf_other {m : Memory} {a x : Addr} {h : Half} (hx : evenBase x ≠ evenBase a) :
    (m.setHalf a h).half x = m.half x := by
  have h1 : evenBase x ≠ evenBase a + 1 := by unfold evenBase at *; omega
  have h2 : evenBase x + 1 ≠ evenBase a := by unfold evenBase at *; omega
  rw [Memory.half, Memory.half, Memory.read_setHalf_other hx h1,
    Memory.read_setHalf_other h2 (by omega)]

/-- An undescribed body keeps the canonical form. -/
theorem Memory.wf_scribbled (place : Addr → Option Addr) (l : List (Addr × Half)) (m : Memory)
    (hw : m.wf = true) : (Memory.scribbled place l m).wf = true := by
  induction l generalizing m with
  | nil => exact hw
  | cons c rest ih =>
    obtain ⟨a, h⟩ := c
    simp only [Memory.scribbled]
    split
    · exact ih _ (Memory.wf_setHalf hw)
    · exact ih _ hw

/-- An undescribed body writes nothing but the places its addresses have. -/
theorem Memory.read_scribbled_outside (place : Addr → Option Addr) (l : List (Addr × Half)) (m : Memory)
    (x : Nat) (hx : ∀ a pa, place a = some pa → x ≠ evenBase pa ∧ x ≠ evenBase pa + 1) :
    (Memory.scribbled place l m).read x = m.read x := by
  induction l generalizing m with
  | nil => rfl
  | cons c rest ih =>
    obtain ⟨a, h⟩ := c
    simp only [Memory.scribbled]
    rw [ih]
    split
    · rename_i pa hp
      exact Memory.read_setHalf_other (hx a pa hp).1 (hx a pa hp).2
    · rfl

/-- Memory after reset is canonical. -/
theorem reset_mem_wf : State.reset.mem.wf = true := rfl

end Sys2Proof.Machine
end

