-- ==== Sys2Proof/Laws/Ops.lean ====
section
/-! SUPPORT. One lemma for each shared operation that says all it can do: on what it answers with a
value, what the state after it may differ in, and what it does where nothing faults. -/

namespace Sys2Proof.Machine

/-! ## Sequencing -/

@[simp] theorem Res.bind_ok {α β : Type} (a : α) (s : State) (k : α → State → Res β) :
    (Res.ok a s).bind k = k a s := rfl

/-- A composition has a value when both parts have one. -/
theorem Res.bind_eq_ok {α β : Type} {r : Res α} {k : α → State → Res β} {b : β} {t : State} :
    r.bind k = .ok b t ↔ ∃ a u, r = .ok a u ∧ k a u = .ok b t := by
  cases r <;> simp [Res.bind]

/-- The last operation gives the next state. -/
theorem Res.out_eq_next {r : Res Unit} {t : State} : r.out = .next t ↔ r = .ok () t := by
  cases r <;> simp [Res.out]

/-- A MAC fault ends an instruction in a next state in two ways: the MAC interrupt waits for a machine
malfunction, or it is taken (R458, R465). -/
theorem endWithMac_eq_next {saved left : Addr} {s t : State} :
    endWithMac saved left s = .next t ↔
      (s.malfunctionDue = true ∧
        t = ((s.setMacPending false).setMacWaiting true).setPc (evenAddr left)) ∨
      (s.malfunctionDue = false ∧ takeMac saved s = .next t) := by
  cases h : s.malfunctionDue <;> simp [endWithMac, h] <;> exact eq_comm

/-- An instruction ends in a next state when its body has a value: that state, or, after a MAC fault,
the one the MAC interrupt leaves, taken or waiting (R459, R465). -/
theorem finish_eq_next {a : Addr} {r : Res Unit} {t : State} :
    finish a r = .next t ↔
      ∃ u, r = .ok () u ∧ ((u.pend.mac = false ∧ t = u) ∨
        (u.pend.mac = true ∧ endWithMac (macSavedPc u.params a u.pc) u.pc u = .next t)) := by
  cases r with
  | ok x u =>
    cases h : u.pend.mac <;> simp [finish, h] <;> exact eq_comm
  | fault f => simp [finish]
  | refused f => simp [finish]

/-- The end of an instruction none of whose accesses faulted. -/
theorem finish_ok {a : Addr} {u : State} (h : u.pend.mac = false) :
    finish a (.ok () u) = .next u := by
  simp [finish, h]

/-- An instruction that does not transfer control, none of whose accesses faults. -/
theorem sequential_ok {len : Nat} {body : State → Res Unit} {s u : State}
    (hb : body s.begin = .ok () u) (h : u.pend.mac = false) :
    sequential len body s = .next (u.setPc (nextAddr s.pc len)) := by
  simp [sequential, hb, finish, h]

/-- An instruction that says itself where control goes, none of whose accesses faults. -/
theorem transfer_ok {body : State → Res Unit} {s u : State} (hb : body s.begin = .ok () u)
    (h : u.pend.mac = false) : transfer body s = .next u := by
  simp [transfer, hb, finish, h]

/-! ## What reads and writes may change -/

/-- What a read of program memory may change: the MAC's status, its pending fault, the count of free
values. -/
def State.AfterRead (s t : State) : Prop :=
  t = { s with macStatus := t.macStatus, pend := { s.pend with mac := t.pend.mac },
               freeIx := t.freeIx }

/-- What a read or a write may change: memory, kept canonical, and the MAC registers besides. -/
def State.AfterAccess (s t : State) : Prop :=
  t = { s with mem := t.mem, macDesc := t.macDesc, macStatus := t.macStatus,
               pend := { s.pend with mac := t.pend.mac }, freeIx := t.freeIx } ∧
  (s.mem.wf = true → t.mem.wf = true)

theorem State.AfterRead.refl (s : State) : s.AfterRead s := rfl

theorem State.AfterRead.trans {s t u : State} (h : s.AfterRead t) (k : t.AfterRead u) :
    s.AfterRead u := by
  unfold State.AfterRead at *
  rw [k, h]

theorem State.AfterRead.access {s t : State} (h : s.AfterRead t) : s.AfterAccess t := by
  unfold State.AfterRead at h
  unfold State.AfterAccess
  rw [h]
  exact ⟨rfl, id⟩

theorem State.AfterAccess.refl (s : State) : s.AfterAccess s := ⟨rfl, id⟩

theorem State.AfterAccess.trans {s t u : State} (h : s.AfterAccess t) (k : t.AfterAccess u) :
    s.AfterAccess u := by
  refine ⟨?_, fun hs => k.2 (h.2 hs)⟩
  rw [k.1, h.1]

theorem State.AfterRead.tick (s : State) : s.AfterRead s.tick := rfl

theorem State.AfterRead.raiseMac (s : State) (c : MacCause) : s.AfterRead (s.raiseMac c) := by
  unfold State.AfterRead State.raiseMac
  split <;> rfl

/-- The first fault of an instruction (R465). -/
theorem State.raiseMac_pending (s : State) (c : MacCause) : (s.raiseMac c).pend.mac = true := by
  unfold State.raiseMac
  split <;> simp_all

/-- A delivered halfword is the one read, or unspecified after a fault. -/
theorem deliver_ok {h v : Half} {s t : State} (e : deliver h s = .ok v t) :
    (s.pend.mac = false ∧ v = h ∧ t = s) ∨ (s.pend.mac = true ∧ t = s.tick) := by
  unfold deliver at e
  split at e <;> simp_all

theorem deliver_untainted {h : Half} {s : State} (hs : s.pend.mac = false) :
    deliver h s = .ok h s := by
  simp [deliver, hs]

/-! ## Absolute memory -/

/-- A read of absolute memory changes nothing, but for a status register that a read clears (R73,
D21). -/
theorem absReadHalf_ok {a : Addr} {h : Half} {s t : State} (e : absReadHalf a s = .ok h t) :
    t = s ∨ (s.readClears a = true ∧ t = { s with macStatus := MacStatus.none }) := by
  unfold absReadHalf State.afterStatusRead at e
  unfold State.readClears
  split at e
  · simp_all
  split at e
  · split at e
    · split at e <;> simp_all
    · simp_all
  split at e
  · simp at e
  split at e <;> simp_all

/-- Where `absHalf` says what stands at an address, a read delivers it and changes nothing. -/
theorem absReadHalf_of_absHalf {a : Addr} {h : Half} {s : State} (e : s.absHalf a = some h) :
    absReadHalf a s = .ok h s := by
  unfold State.absHalf State.readClears at e
  unfold absReadHalf State.afterStatusRead
  by_cases hd : isDescriptor a = true
  · simp_all
  by_cases hm : isMacOther a = true
  · by_cases hx : BitVec.extractLsb' 2 2 a = 0#2
    · by_cases hc : s.params.macStatus.clear = .onRead (a.getLsbD 1) <;> simp_all
    · simp_all
  by_cases hr : isMacReserved a = true
  · simp_all
  by_cases hp : pagePresent s.params a = true <;> simp_all

/-- A write to absolute memory replaces half a descriptor or a halfword of memory (R73). -/
theorem absWriteHalf_ok {a : Addr} {h : Half} {s t : State} (e : absWriteHalf a h s = .ok () t) :
    t = s.setDescriptorHalf a h ∨ t = s.setMem (s.mem.setHalf a h) := by
  unfold absWriteHalf at e
  split at e
  · simp_all
  split at e
  · simp at e
  split at e
  · simp at e
  split at e <;> simp_all

/-- A write to absolute memory and the state `storedAbs` names. -/
theorem absWriteHalf_iff {a : Addr} {h : Half} {s t : State} :
    absWriteHalf a h s = .ok () t ↔ s.storedAbs a h = some t := by
  unfold absWriteHalf State.storedAbs
  by_cases hd : isDescriptor a = true
  · simp [hd]
  by_cases hm : isMacOther a = true
  · simp [hd, hm]
  by_cases hr : isMacReserved a = true
  · simp [hd, hm, hr]
  by_cases hp : pagePresent s.params a = true <;> simp [hd, hm, hr, hp]

theorem absReadHalf_after {a : Addr} {h : Half} {s t : State} (e : absReadHalf a s = .ok h t) :
    s.AfterRead t := by
  rcases absReadHalf_ok e with rfl | ⟨-, rfl⟩ <;> rfl

theorem absWriteHalf_after {a : Addr} {h : Half} {s t : State} (e : absWriteHalf a h s = .ok () t) :
    s.AfterAccess t := by
  rcases absWriteHalf_ok e with rfl | rfl
  · exact ⟨rfl, id⟩
  · exact ⟨rfl, Memory.wf_setHalf⟩

/-! ## Program memory -/

/-- A halfword read, at what it may change (R70, R95). -/
theorem readHalfAt_after {kind : Access} {va : Addr} {h : Half} {s t : State}
    (e : readHalfAt kind va s = .ok h t) : s.AfterRead t := by
  unfold readHalfAt at e
  split at e
  · rcases deliver_ok e with ⟨-, -, rfl⟩ | ⟨-, rfl⟩ <;> rfl
  split at e
  · exact absReadHalf_after e
  · rename_i c _
    refine (State.AfterRead.raiseMac s c).trans (t := s.raiseMac c) ?_
    rcases deliver_ok e with ⟨-, -, h2⟩ | ⟨-, h2⟩ <;> rw [h2] <;> rfl

/-- A write after a MAC fault, at what it may change (R465). -/
theorem writeTainted_after {va : Addr} {s t : State} (e : writeTainted va s = .ok () t) :
    s.AfterAccess t := by
  unfold writeTainted at e
  split at e
  · split at e
    · exact (State.AfterRead.tick s).access.trans (absWriteHalf_after e)
    · simp only [Res.ok.injEq, true_and] at e
      rw [← e]
      exact (State.AfterRead.tick s).access
  · simp only [Res.ok.injEq, true_and] at e
    rw [← e]
    exact State.AfterAccess.refl s

/-- A write after a MAC fault never stops the instruction (R465). -/
theorem writeTainted_completes (va : Addr) (s : State) : ∃ t, writeTainted va s = .ok () t := by
  unfold writeTainted
  split
  · split
    · rename_i pa _ hs
      unfold isStorable isPlain at hs
      unfold absWriteHalf
      simp only [State.tick_params]
      by_cases hd : isDescriptor pa = true
      · simp [hd]
      · simp_all
    · exact ⟨_, rfl⟩
  · exact ⟨_, rfl⟩

/-- A halfword write, at what it may change (R71, R95). -/
theorem writeHalfAt_after {va : Addr} {h : Half} {s t : State} (e : writeHalfAt va h s = .ok () t) :
    s.AfterAccess t := by
  unfold writeHalfAt at e
  split at e
  · exact writeTainted_after e
  split at e
  · exact absWriteHalf_after e
  · simp only [Res.ok.injEq, true_and] at e
    rw [← e]
    exact (State.AfterRead.raiseMac s _).access

theorem readHalf_after {ea : Word} {h : Half} {s t : State} (e : readHalf ea s = .ok h t) :
    s.AfterRead t := readHalfAt_after e

theorem readFull_after {ea v : Word} {s t : State} (e : readFull ea s = .ok v t) : s.AfterRead t := by
  obtain ⟨a, u, h1, h2⟩ := Res.bind_eq_ok.1 e
  obtain ⟨b, w, h3, h4⟩ := Res.bind_eq_ok.1 h2
  simp only [Res.ok.injEq] at h4
  rw [← h4.2]
  exact (readHalfAt_after h1).trans (readHalfAt_after h3)

theorem readByte_after {ea : Word} {b : Byte} {s t : State} (e : readByte ea s = .ok b t) :
    s.AfterRead t := by
  obtain ⟨a, u, h1, h2⟩ := Res.bind_eq_ok.1 e
  simp only [Res.ok.injEq] at h2
  rw [← h2.2]
  exact readHalfAt_after h1

theorem writeHalf_after {ea : Word} {h : Half} {s t : State} (e : writeHalf ea h s = .ok () t) :
    s.AfterAccess t := writeHalfAt_after e

theorem writeFull_after {ea v : Word} {s t : State} (e : writeFull ea v s = .ok () t) :
    s.AfterAccess t := by
  obtain ⟨a, u, h1, h2⟩ := Res.bind_eq_ok.1 e
  exact (writeHalfAt_after h1).trans (writeHalfAt_after h2)

theorem writeByte_after {ea : Word} {b : Byte} {s t : State} (e : writeByte ea b s = .ok () t) :
    s.AfterAccess t := by
  unfold writeByte at e
  split at e
  · exact writeTainted_after e
  split at e
  · obtain ⟨a, u, h1, h2⟩ := Res.bind_eq_ok.1 e
    exact (absReadHalf_after h1).access.trans (absWriteHalf_after h2)
  · simp only [Res.ok.injEq, true_and] at e
    rw [← e]
    exact (State.AfterRead.raiseMac s _).access

theorem testAndSetAt_after {va : Addr} {h : Half} {s t : State} (e : testAndSetAt va s = .ok h t) :
    s.AfterAccess t := by
  unfold testAndSetAt at e
  split at e
  · obtain ⟨a, u, h1, h2⟩ := Res.bind_eq_ok.1 e
    obtain ⟨c, v, h3, h4⟩ := Res.bind_eq_ok.1 h2
    have hv : v.AfterRead t := by
      rcases deliver_ok h4 with ⟨-, -, rfl⟩ | ⟨-, rfl⟩ <;> rfl
    exact ((absReadHalf_after h1).access.trans (absWriteHalf_after h3)).trans hv.access
  · rename_i c _
    refine ((State.AfterRead.raiseMac s c).trans (t := s.raiseMac c) ?_).access
    rcases deliver_ok e with ⟨-, -, h2⟩ | ⟨-, h2⟩ <;> rw [h2] <;> rfl

/-! ## Program memory where nothing faults -/

/-- A halfword read where `halfAt` says what stands there. -/
theorem readHalfAt_value {kind : Access} {va : Addr} {h : Half} {s : State}
    (hm : s.pend.mac = false) (e : s.halfAt kind va = some h) :
    readHalfAt kind (evenAddr va) s = .ok h s := by
  unfold State.halfAt at e
  unfold readHalfAt
  split at e
  · rename_i pa hp
    simp [hm, hp, absReadHalf_of_absHalf e]
  · simp at e

theorem evenAddr_evenAddr (a : Addr) : evenAddr (evenAddr a) = evenAddr a := by
  simp [evenAddr, BitVec.and_assoc]

/-- The even address of a halfword has bit 0 clear, and no other bit changes. -/
theorem evenAddr_toNat (a : Addr) : (evenAddr a).toNat = evenBase a := by
  have h : (evenAddr a).toNat = (a.toNat / 2) * 2 := by
    rw [← Nat.shiftRight_eq_div_pow a.toNat 1, ← Nat.shiftLeft_eq _ 1]
    apply Nat.eq_of_testBit_eq
    intro i
    rw [evenAddr, BitVec.toNat_and, Nat.testBit_and, Nat.testBit_shiftLeft, Nat.testBit_shiftRight]
    by_cases hi : i < 20
    · interval_cases i <;> simp [Nat.testBit]
    · rw [Nat.testBit_lt_two_pow (show (0xFFFFE#20 : Addr).toNat < 2 ^ i from
        Nat.lt_of_lt_of_le (by decide : (0xFFFFE#20 : Addr).toNat < 2 ^ 20)
          (Nat.pow_le_pow_right (by decide) (Nat.le_of_not_lt hi)))]
      have : a.toNat < 2 ^ i := Nat.lt_of_lt_of_le a.isLt
        (Nat.pow_le_pow_right (by decide) (Nat.le_of_not_lt hi))
      have hge : 1 ≤ i := by omega
      simp [hge, Nat.testBit_lt_two_pow this]
  rw [h, evenBase, Nat.mul_comm]

theorem evenAddr_add_two (a : Addr) : evenAddr (evenAddr a + 2#20) = evenAddr a + 2#20 := by
  apply BitVec.eq_of_toNat_eq
  rw [evenAddr_toNat]
  simp only [evenBase, BitVec.toNat_add, BitVec.toNat_ofNat, evenAddr_toNat]
  omega

theorem readHalf_value {ea : Word} {h : Half} {s : State} (hm : s.pend.mac = false)
    (e : s.dataHalf ea = some h) : readHalf ea s = .ok h s := readHalfAt_value hm e

theorem readFull_value {ea v : Word} {s : State} (hm : s.pend.mac = false)
    (e : s.dataFull ea = some v) : readFull ea s = .ok v s := by
  unfold State.dataFull at e
  obtain ⟨hi, h1, h2⟩ := Option.bind_eq_some_iff.1 e
  obtain ⟨lo, h3, h4⟩ := Option.map_eq_some_iff.1 h2
  unfold readFull
  rw [readHalfAt_value hm h1, Res.bind_ok, ← evenAddr_add_two, readHalfAt_value hm h3, Res.bind_ok, h4]

theorem readByte_value {ea : Word} {b : Byte} {s : State} (hm : s.pend.mac = false)
    (e : s.dataByte ea = some b) : readByte ea s = .ok b s := by
  unfold State.dataByte at e
  obtain ⟨h, h1, h2⟩ := Option.map_eq_some_iff.1 e
  have h3 := readHalf_value hm h1
  unfold readHalf at h3
  simp [readByte, h3, h2]

/-- A stored halfword leaves the pending conditions alone. -/
theorem State.storedAbs_pend {pa : Addr} {h : Half} {s t : State} (e : s.storedAbs pa h = some t) :
    t.pend = s.pend := by
  rcases absWriteHalf_ok (absWriteHalf_iff.2 e) with rfl | rfl <;> rfl

theorem State.storedAt_pend {va : Addr} {h : Half} {s t : State} (e : s.storedAt va h = some t) :
    t.pend = s.pend := by
  unfold State.storedAt at e
  split at e
  · exact State.storedAbs_pend e
  · simp at e

/-- A halfword written where `storedAt` names the state after it. -/
theorem writeHalfAt_value {va : Addr} {h : Half} {s t : State} (hm : s.pend.mac = false)
    (e : s.storedAt va h = some t) : writeHalfAt (evenAddr va) h s = .ok () t := by
  unfold State.storedAt at e
  unfold writeHalfAt
  split at e
  · rename_i pa hp
    simp [hm, hp, absWriteHalf_iff.2 e]
  · simp at e

theorem writeHalf_value {ea : Word} {h : Half} {s t : State} (hm : s.pend.mac = false)
    (e : s.storedHalf ea h = some t) : writeHalf ea h s = .ok () t := writeHalfAt_value hm e

theorem writeFull_value {ea v : Word} {s t : State} (hm : s.pend.mac = false)
    (e : s.storedFull ea v = some t) : writeFull ea v s = .ok () t := by
  obtain ⟨u, h1, h2⟩ := Option.bind_eq_some_iff.1 e
  have hu : u.pend.mac = false := by rw [State.storedAt_pend h1, hm]
  unfold writeFull
  have e1 : halfOf false v = v.extractLsb' 16 16 := rfl
  have e2 : halfOf true v = v.setWidth 16 := rfl
  rw [e1, e2, writeHalfAt_value hm h1, Res.bind_ok, ← evenAddr_add_two, writeHalfAt_value hu h2]

/-! ## Blocks -/

/-- Reading a block, at what it may change. -/
theorem readHalves_after {l : List Word} {hs : List Half} {s t : State}
    (e : readHalves l s = .ok hs t) : s.AfterRead t := by
  induction l generalizing hs s t with
  | nil =>
    simp only [readHalves, Res.ok.injEq] at e
    rw [← e.2]
    exact State.AfterRead.refl s
  | cons ea rest ih =>
    obtain ⟨h, u, h1, h2⟩ := Res.bind_eq_ok.1 e
    obtain ⟨k, v, h3, h4⟩ := Res.bind_eq_ok.1 h2
    simp only [Res.ok.injEq] at h4
    rw [← h4.2]
    exact (readHalf_after h1).trans (ih h3)

/-- Copying halfwords, at what it may change (R175). -/
theorem copyEach_after {open_ : Bool} {l : List (Word × Word)} {s t : State}
    (e : copyEach open_ l s = .ok () t) : s.AfterAccess t := by
  induction l generalizing s with
  | nil =>
    simp only [copyEach, Res.ok.injEq, true_and] at e
    rw [← e]
    exact State.AfterAccess.refl s
  | cons p rest ih =>
    obtain ⟨h, u, h1, h2⟩ := Res.bind_eq_ok.1 e
    obtain ⟨_, v, h3, h4⟩ := Res.bind_eq_ok.1 h2
    refine ((readHalf_after h1).access.trans ?_).trans (ih h4)
    split at h3
    · exact (State.AfterRead.tick u).access.trans (writeHalf_after h3)
    · exact writeHalf_after h3

/-- Scanning a ring, at what it may change (R381). -/
theorem scanRing_after {halves : Bool} {ring lead : Word} {n : Nat} {trail : Word} {b : Bool}
    {s t : State} (e : scanRing halves ring lead n trail s = .ok b t) : s.AfterRead t := by
  induction n generalizing trail s with
  | zero =>
    simp only [scanRing, Res.ok.injEq] at e
    rw [← e.2]
    exact State.AfterRead.refl s
  | succ n ih =>
    unfold scanRing at e
    split at e
    · simp only [Res.ok.injEq] at e
      rw [← e.2]
      exact State.AfterRead.refl s
    split at e
    all_goals
      obtain ⟨h, u, h1, h2⟩ := Res.bind_eq_ok.1 e
      split at h2
    · exact (readHalf_after h1).trans (ih h2)
    · simp only [Res.ok.injEq] at h2
      rw [← h2.2]
      exact readHalf_after h1
    · exact (readByte_after h1).trans (ih h2)
    · simp only [Res.ok.injEq] at h2
      rw [← h2.2]
      exact readByte_after h1

/-! ## Transfers of control and exceptions -/

/-- An exception entry goes to an even location (R24, D18). -/
theorem enterAt_eq_ok {a : Addr} {s t : State} :
    enterAt a s = .ok () t ↔ a.getLsbD 0 = false ∧ t = s.setPc a := by
  unfold enterAt
  cases a.getLsbD 0 <;> simp <;> exact eq_comm

/-- A jump goes to an even location, or anywhere after a fault (D18). -/
theorem loadPc_ok {a : Addr} {s t : State} (e : loadPc a s = .ok () t) :
    (s.pend.mac = false ∧ a.getLsbD 0 = false ∧ t = s.setPc a) ∨
      (s.pend.mac = true ∧ t = s.tick.setPc (s.free.setWidth 20)) := by
  unfold loadPc at e
  split at e
  · simp_all
  · obtain ⟨h1, h2⟩ := enterAt_eq_ok.1 e
    simp_all

theorem loadPc_value {a : Addr} {s : State} (hm : s.pend.mac = false) (ha : a.getLsbD 0 = false) :
    loadPc a s = .ok () (s.setPc a) := by
  rw [loadPc, hm]
  exact enterAt_eq_ok.2 ⟨ha, rfl⟩

/-- A jump to an odd target is refused, traced or not (R274, D18). -/
theorem jumpTo_odd {a : Addr} (s : State) (h : a.getLsbD 0 = true) :
    jumpTo a s = .refused .oddProgramCounter := by
  rw [jumpTo, if_pos h]

/-- A jump that is not traced goes to its target (R274). -/
theorem jumpTo_untraced {a : Addr} {s : State} (h : a.getLsbD 0 = false) (ht : s.psw.t = false) :
    jumpTo a s = .ok () (s.setPc a) := by
  rw [jumpTo, h]
  simp [ht]

/-- A traced jump is the trace trap (R485). -/
theorem jumpTo_traced {a : Addr} {s : State} (h : a.getLsbD 0 = false) (ht : s.psw.t = true) :
    jumpTo a s = (writeFull 0x14#32 (pcImage a) s).bind fun _ t =>
      (writeFull 0x10#32 s.psw.image t).bind fun _ u =>
        (readFull 0x18#32 (u.writeTrace false)).bind fun w v => loadPc (pcOfImage w) v := by
  rw [jumpTo, h]
  simp [ht]

theorem absReadFull_value {a : Addr} {v : Word} {s : State} (e : s.absFull a = some v) :
    absReadFull a s = .ok v s := by
  unfold State.absFull at e
  obtain ⟨hi, h1, h2⟩ := Option.bind_eq_some_iff.1 e
  obtain ⟨lo, h3, h4⟩ := Option.map_eq_some_iff.1 h2
  simp [absReadFull, absReadHalf_of_absHalf h1, absReadHalf_of_absHalf h3, h4]

/-- The PSW swap, wherever the dedicated locations hold a usable context (R451). -/
theorem swapToRegisters_value {pswAt pcAt saved : Addr} {newPsw newPc : Word} {s : State}
    (h : s.NewContext pswAt pcAt newPsw newPc) :
    swapToRegisters pswAt pcAt saved s = .ok () (s.swapped newPsw newPc saved) := by
  obtain ⟨h1, h2, h3⟩ := h
  simp only [swapToRegisters, absReadFull_value h1, absReadFull_value h2, Res.bind_ok]
  exact enterAt_eq_ok.2 ⟨h3, rfl⟩

/-- An illegal instruction, wherever its dedicated locations hold a usable context (R462). -/
theorem takeIllegal_value {newPsw newPc : Word} {s : State}
    (h : s.NewContext 0x30#20 0x34#20 newPsw newPc) :
    takeIllegal s = .next (s.swapped newPsw newPc (illegalSavedPc s.params s.pc)) := by
  simp [takeIllegal, swapToRegisters_value h, Res.out]

end Sys2Proof.Machine
end

