-- ==== Sys2Proof/Laws/PerInstr.lean ====
section
/-! SUPPORT. The family EncodingShape: for every instruction, that its words are as many as its length
says and that the op code of the first is an assigned one (`30_encoding.md` R111, R126, R140). -/

namespace Sys2Proof.Laws.EncodingShape

/-- The words of an instruction: their number, and an op code that is not illegal. -/
def Statement (i : Instr) : Prop :=
  2 * (encode i).length = i.length ∧ ∃ h hs, encode i = h :: hs ∧ opClass (opField h) ≠ .illegal

/-- One, two or three words that begin with an assigned op code. -/
theorem of_words {i : Instr} {op : Byte} {r1 r2 : Reg} {hs : List Half}
    (e : encode i = firstHalf op r1 r2 :: hs) (hl : 2 * (hs.length + 1) = i.length)
    (ho : opClass op ≠ .illegal) : Statement i :=
  ⟨by rw [e]; exact hl, _, _, e, by rw [opField_firstHalf]; exact ho⟩

/-- The words of an RX instruction. -/
theorem of_rx {i : Instr} {op : Byte} {r1 : Reg} {rx : RxAddr} (e : encode i = encodeRx op r1 rx)
    (hl : i.length = rx.length) (ho : opClass op ≠ .illegal) : Statement i := by
  obtain ⟨r2, hs, h⟩ := encodeRx_head op r1 rx
  refine ⟨by rw [e, hl, encodeRx_length], _, _, e.trans h, ?_⟩
  rw [opField_firstHalf]
  exact ho

theorem jalr (r1 : Reg) (r2 : Reg) : Statement (.jalr r1 r2) :=
  of_words rfl rfl (by decide)
theorem jtr (mask : Nib) (r2 : Reg) : Statement (.jtr mask r2) :=
  of_words rfl rfl (by decide)
theorem jfr (mask : Nib) (r2 : Reg) : Statement (.jfr mask r2) :=
  of_words rfl rfl (by decide)
theorem nr (r1 : Reg) (r2 : Reg) : Statement (.nr r1 r2) :=
  of_words rfl rfl (by decide)
theorem clr (r1 : Reg) (r2 : Reg) : Statement (.clr r1 r2) :=
  of_words rfl rfl (by decide)
theorem or (r1 : Reg) (r2 : Reg) : Statement (.or r1 r2) :=
  of_words rfl rfl (by decide)
theorem xr (r1 : Reg) (r2 : Reg) : Statement (.xr r1 r2) :=
  of_words rfl rfl (by decide)
theorem lr (r1 : Reg) (r2 : Reg) : Statement (.lr r1 r2) :=
  of_words rfl rfl (by decide)
theorem cr (r1 : Reg) (r2 : Reg) : Statement (.cr r1 r2) :=
  of_words rfl rfl (by decide)
theorem ar (r1 : Reg) (r2 : Reg) : Statement (.ar r1 r2) :=
  of_words rfl rfl (by decide)
theorem sr (r1 : Reg) (r2 : Reg) : Statement (.sr r1 r2) :=
  of_words rfl rfl (by decide)
theorem mhr (r1 : Reg) (r2 : Reg) : Statement (.mhr r1 r2) :=
  of_words rfl rfl (by decide)
theorem dhr (r1 : Reg) (r2 : Reg) : Statement (.dhr r1 r2) :=
  of_words rfl rfl (by decide)
theorem rma1 (r1 : Reg) (r2 : Reg) : Statement (.rma1 r1 r2) :=
  of_words rfl rfl (by decide)
theorem rma2 (r1 : Reg) (r2 : Reg) : Statement (.rma2 r1 r2) :=
  of_words rfl rfl (by decide)
theorem srls (r1 : Reg) (n : Nib) : Statement (.srls r1 n) :=
  of_words rfl rfl (by decide)
theorem slls (r1 : Reg) (n : Nib) : Statement (.slls r1 n) :=
  of_words rfl rfl (by decide)
theorem lhr (r1 : Reg) (r2 : Reg) : Statement (.lhr r1 r2) :=
  of_words rfl rfl (by decide)
theorem sbod (r1 : Reg) (r2 : Reg) : Statement (.sbod r1 r2) :=
  of_words rfl rfl (by decide)
theorem xmit (r1 : Reg) (r2 : Reg) : Statement (.xmit r1 r2) :=
  of_words rfl rfl (by decide)
theorem spm (r1 : Reg) (r2 : Reg) : Statement (.spm r1 r2) :=
  of_words rfl rfl (by decide)
theorem gchar (r1 : Reg) (r2 : Reg) : Statement (.gchar r1 r2) :=
  of_words rfl rfl (by decide)
theorem lpswr (r1 : Reg) (r2 : Reg) : Statement (.lpswr r1 r2) :=
  of_words rfl rfl (by decide)
theorem mr (r1 : Reg) (r2 : Reg) : Statement (.mr r1 r2) :=
  of_words rfl rfl (by decide)
theorem dr (r1 : Reg) (r2 : Reg) : Statement (.dr r1 r2) :=
  of_words rfl rfl (by decide)
theorem jtbs (mask : Nib) (n : Nib) : Statement (.jtbs mask n) :=
  of_words rfl rfl (by decide)
theorem jtfs (mask : Nib) (n : Nib) : Statement (.jtfs mask n) :=
  of_words rfl rfl (by decide)
theorem jfbs (mask : Nib) (n : Nib) : Statement (.jfbs mask n) :=
  of_words rfl rfl (by decide)
theorem jffs (mask : Nib) (n : Nib) : Statement (.jffs mask n) :=
  of_words rfl rfl (by decide)
theorem lis (r1 : Reg) (n : Nib) : Statement (.lis r1 n) :=
  of_words rfl rfl (by decide)
theorem lcs (r1 : Reg) (n : Nib) : Statement (.lcs r1 n) :=
  of_words rfl rfl (by decide)
theorem ais (r1 : Reg) (n : Nib) : Statement (.ais r1 n) :=
  of_words rfl rfl (by decide)
theorem sis (r1 : Reg) (n : Nib) : Statement (.sis r1 n) :=
  of_words rfl rfl (by decide)
theorem jffo (r1 : Reg) (n : Nib) : Statement (.jffo r1 n) :=
  of_words rfl rfl (by decide)
theorem jffoh (r1 : Reg) (n : Nib) : Statement (.jffoh r1 n) :=
  of_words rfl rfl (by decide)
theorem exhr (r1 : Reg) (r2 : Reg) : Statement (.exhr r1 r2) :=
  of_words rfl rfl (by decide)
theorem scan (r1 : Reg) (r2 : Reg) : Statement (.scan r1 r2) :=
  of_words rfl rfl (by decide)
theorem align (r1 : Reg) (r2 : Reg) : Statement (.align r1 r2) :=
  of_words rfl rfl (by decide)
theorem cksum (r1 : Reg) (r2 : Reg) : Statement (.cksum r1 r2) :=
  of_words rfl rfl (by decide)
theorem gci (r1 : Reg) (r2 : Reg) : Statement (.gci r1 r2) :=
  of_words rfl rfl (by decide)
theorem wci (r1 : Reg) (r2 : Reg) : Statement (.wci r1 r2) :=
  of_words rfl rfl (by decide)
theorem cbct (r1 : Reg) (r2 : Reg) : Statement (.cbct r1 r2) :=
  of_words rfl rfl (by decide)
theorem rtd1 (r1 : Reg) (r2 : Reg) : Statement (.rtd1 r1 r2) :=
  of_words rfl rfl (by decide)
theorem rtd2 (r1 : Reg) (r2 : Reg) : Statement (.rtd2 r1 r2) :=
  of_words rfl rfl (by decide)
theorem arand (r1 : Reg) (r2 : Reg) : Statement (.arand r1 r2) :=
  of_words rfl rfl (by decide)
theorem copy (r1 : Reg) (r2 : Reg) : Statement (.copy r1 r2) :=
  of_words rfl rfl (by decide)
theorem sth (r1 : Reg) (rx : RxAddr) : Statement (.sth r1 rx) :=
  of_rx rfl rfl (by decide)
theorem jal (r1 : Reg) (rx : RxAddr) : Statement (.jal r1 rx) :=
  of_rx rfl rfl (by decide)
theorem jt (mask : Nib) (rx : RxAddr) : Statement (.jt mask rx) :=
  of_rx rfl rfl (by decide)
theorem jf (mask : Nib) (rx : RxAddr) : Statement (.jf mask rx) :=
  of_rx rfl rfl (by decide)
theorem nh (r1 : Reg) (rx : RxAddr) : Statement (.nh r1 rx) :=
  of_rx rfl rfl (by decide)
theorem clh (r1 : Reg) (rx : RxAddr) : Statement (.clh r1 rx) :=
  of_rx rfl rfl (by decide)
theorem oh (r1 : Reg) (rx : RxAddr) : Statement (.oh r1 rx) :=
  of_rx rfl rfl (by decide)
theorem xh (r1 : Reg) (rx : RxAddr) : Statement (.xh r1 rx) :=
  of_rx rfl rfl (by decide)
theorem lh (r1 : Reg) (rx : RxAddr) : Statement (.lh r1 rx) :=
  of_rx rfl rfl (by decide)
theorem ch (r1 : Reg) (rx : RxAddr) : Statement (.ch r1 rx) :=
  of_rx rfl rfl (by decide)
theorem ah (r1 : Reg) (rx : RxAddr) : Statement (.ah r1 rx) :=
  of_rx rfl rfl (by decide)
theorem sh (r1 : Reg) (rx : RxAddr) : Statement (.sh r1 rx) :=
  of_rx rfl rfl (by decide)
theorem mh (r1 : Reg) (rx : RxAddr) : Statement (.mh r1 rx) :=
  of_rx rfl rfl (by decide)
theorem dh (r1 : Reg) (rx : RxAddr) : Statement (.dh r1 rx) :=
  of_rx rfl rfl (by decide)
theorem st (r1 : Reg) (rx : RxAddr) : Statement (.st r1 rx) :=
  of_rx rfl rfl (by decide)
theorem am (r1 : Reg) (rx : RxAddr) : Statement (.am r1 rx) :=
  of_rx rfl rfl (by decide)
theorem n (r1 : Reg) (rx : RxAddr) : Statement (.n r1 rx) :=
  of_rx rfl rfl (by decide)
theorem cl (r1 : Reg) (rx : RxAddr) : Statement (.cl r1 rx) :=
  of_rx rfl rfl (by decide)
theorem o (r1 : Reg) (rx : RxAddr) : Statement (.o r1 rx) :=
  of_rx rfl rfl (by decide)
theorem x (r1 : Reg) (rx : RxAddr) : Statement (.x r1 rx) :=
  of_rx rfl rfl (by decide)
theorem l (r1 : Reg) (rx : RxAddr) : Statement (.l r1 rx) :=
  of_rx rfl rfl (by decide)
theorem c (r1 : Reg) (rx : RxAddr) : Statement (.c r1 rx) :=
  of_rx rfl rfl (by decide)
theorem a (r1 : Reg) (rx : RxAddr) : Statement (.a r1 rx) :=
  of_rx rfl rfl (by decide)
theorem s (r1 : Reg) (rx : RxAddr) : Statement (.s r1 rx) :=
  of_rx rfl rfl (by decide)
theorem m (r1 : Reg) (rx : RxAddr) : Statement (.m r1 rx) :=
  of_rx rfl rfl (by decide)
theorem d (r1 : Reg) (rx : RxAddr) : Statement (.d r1 rx) :=
  of_rx rfl rfl (by decide)
theorem ahm (r1 : Reg) (rx : RxAddr) : Statement (.ahm r1 rx) :=
  of_rx rfl rfl (by decide)
theorem lhl (r1 : Reg) (rx : RxAddr) : Statement (.lhl r1 rx) :=
  of_rx rfl rfl (by decide)
theorem tbt (r1 : Reg) (rx : RxAddr) : Statement (.tbt r1 rx) :=
  of_rx rfl rfl (by decide)
theorem sbt (r1 : Reg) (rx : RxAddr) : Statement (.sbt r1 rx) :=
  of_rx rfl rfl (by decide)
theorem rbt (r1 : Reg) (rx : RxAddr) : Statement (.rbt r1 rx) :=
  of_rx rfl rfl (by decide)
theorem cbt (r1 : Reg) (rx : RxAddr) : Statement (.cbt r1 rx) :=
  of_rx rfl rfl (by decide)
theorem srhls (r1 : Reg) (n : Nib) : Statement (.srhls r1 n) :=
  of_words rfl rfl (by decide)
theorem slhls (r1 : Reg) (n : Nib) : Statement (.slhls r1 n) :=
  of_words rfl rfl (by decide)
theorem stbr (r1 : Reg) (r2 : Reg) : Statement (.stbr r1 r2) :=
  of_words rfl rfl (by decide)
theorem lbr (r1 : Reg) (r2 : Reg) : Statement (.lbr r1 r2) :=
  of_words rfl rfl (by decide)
theorem exbr (r1 : Reg) (r2 : Reg) : Statement (.exbr r1 r2) :=
  of_words rfl rfl (by decide)
theorem epsr (r1 : Reg) (r2 : Reg) : Statement (.epsr r1 r2) :=
  of_words rfl rfl (by decide)
theorem cio (r1 : Reg) (r2 : Reg) : Statement (.cio r1 r2) :=
  of_words rfl rfl (by decide)
theorem wdr (r1 : Reg) (r2 : Reg) : Statement (.wdr r1 r2) :=
  of_words rfl rfl (by decide)
theorem rdr (r1 : Reg) (r2 : Reg) : Statement (.rdr r1 r2) :=
  of_words rfl rfl (by decide)
theorem ssr (r1 : Reg) (r2 : Reg) : Statement (.ssr r1 r2) :=
  of_words rfl rfl (by decide)
theorem ocr (r1 : Reg) (r2 : Reg) : Statement (.ocr r1 r2) :=
  of_words rfl rfl (by decide)
theorem lpsw (r1 : Reg) (rx : RxAddr) : Statement (.lpsw r1 rx) :=
  of_rx rfl rfl (by decide)
theorem thi (r1 : Reg) (x2 : Reg) (i2 : Half) : Statement (.thi r1 x2 i2) :=
  of_words rfl rfl (by decide)
theorem nhi (r1 : Reg) (x2 : Reg) (i2 : Half) : Statement (.nhi r1 x2 i2) :=
  of_words rfl rfl (by decide)
theorem clhi (r1 : Reg) (x2 : Reg) (i2 : Half) : Statement (.clhi r1 x2 i2) :=
  of_words rfl rfl (by decide)
theorem ohi (r1 : Reg) (x2 : Reg) (i2 : Half) : Statement (.ohi r1 x2 i2) :=
  of_words rfl rfl (by decide)
theorem xhi (r1 : Reg) (x2 : Reg) (i2 : Half) : Statement (.xhi r1 x2 i2) :=
  of_words rfl rfl (by decide)
theorem lhi (r1 : Reg) (x2 : Reg) (i2 : Half) : Statement (.lhi r1 x2 i2) :=
  of_words rfl rfl (by decide)
theorem chi (r1 : Reg) (x2 : Reg) (i2 : Half) : Statement (.chi r1 x2 i2) :=
  of_words rfl rfl (by decide)
theorem ahi (r1 : Reg) (x2 : Reg) (i2 : Half) : Statement (.ahi r1 x2 i2) :=
  of_words rfl rfl (by decide)
theorem shi (r1 : Reg) (x2 : Reg) (i2 : Half) : Statement (.shi r1 x2 i2) :=
  of_words rfl rfl (by decide)
theorem srhl (r1 : Reg) (rx : RxAddr) : Statement (.srhl r1 rx) :=
  of_rx rfl rfl (by decide)
theorem slhl (r1 : Reg) (rx : RxAddr) : Statement (.slhl r1 rx) :=
  of_rx rfl rfl (by decide)
theorem stm (r1 : Reg) (rx : RxAddr) : Statement (.stm r1 rx) :=
  of_rx rfl rfl (by decide)
theorem lm (r1 : Reg) (rx : RxAddr) : Statement (.lm r1 rx) :=
  of_rx rfl rfl (by decide)
theorem stb (r1 : Reg) (rx : RxAddr) : Statement (.stb r1 rx) :=
  of_rx rfl rfl (by decide)
theorem lb (r1 : Reg) (rx : RxAddr) : Statement (.lb r1 rx) :=
  of_rx rfl rfl (by decide)
theorem clb (r1 : Reg) (rx : RxAddr) : Statement (.clb r1 rx) :=
  of_rx rfl rfl (by decide)
theorem upsw (r1 : Reg) (rx : RxAddr) : Statement (.upsw r1 rx) :=
  of_rx rfl rfl (by decide)
theorem wd (r1 : Reg) (rx : RxAddr) : Statement (.wd r1 rx) :=
  of_rx rfl rfl (by decide)
theorem oc (r1 : Reg) (rx : RxAddr) : Statement (.oc r1 rx) :=
  of_rx rfl rfl (by decide)
theorem ts (r1 : Reg) (rx : RxAddr) : Statement (.ts r1 rx) :=
  of_rx rfl rfl (by decide)
theorem svc (r1 : Reg) (rx : RxAddr) : Statement (.svc r1 rx) :=
  of_rx rfl rfl (by decide)
theorem la (r1 : Reg) (rx : RxAddr) : Statement (.la r1 rx) :=
  of_rx rfl rfl (by decide)
theorem rrl (r1 : Reg) (rx : RxAddr) : Statement (.rrl r1 rx) :=
  of_rx rfl rfl (by decide)
theorem rll (r1 : Reg) (rx : RxAddr) : Statement (.rll r1 rx) :=
  of_rx rfl rfl (by decide)
theorem srl (r1 : Reg) (rx : RxAddr) : Statement (.srl r1 rx) :=
  of_rx rfl rfl (by decide)
theorem sll (r1 : Reg) (rx : RxAddr) : Statement (.sll r1 rx) :=
  of_rx rfl rfl (by decide)
theorem sra (r1 : Reg) (rx : RxAddr) : Statement (.sra r1 rx) :=
  of_rx rfl rfl (by decide)
theorem ti (r1 : Reg) (x2 : Reg) (i2 : Word) : Statement (.ti r1 x2 i2) :=
  of_words rfl rfl (by decide)
theorem ni (r1 : Reg) (x2 : Reg) (i2 : Word) : Statement (.ni r1 x2 i2) :=
  of_words rfl rfl (by decide)
theorem cli (r1 : Reg) (x2 : Reg) (i2 : Word) : Statement (.cli r1 x2 i2) :=
  of_words rfl rfl (by decide)
theorem oi (r1 : Reg) (x2 : Reg) (i2 : Word) : Statement (.oi r1 x2 i2) :=
  of_words rfl rfl (by decide)
theorem xi (r1 : Reg) (x2 : Reg) (i2 : Word) : Statement (.xi r1 x2 i2) :=
  of_words rfl rfl (by decide)
theorem li (r1 : Reg) (x2 : Reg) (i2 : Word) : Statement (.li r1 x2 i2) :=
  of_words rfl rfl (by decide)
theorem ci (r1 : Reg) (x2 : Reg) (i2 : Word) : Statement (.ci r1 x2 i2) :=
  of_words rfl rfl (by decide)
theorem ai (r1 : Reg) (x2 : Reg) (i2 : Word) : Statement (.ai r1 x2 i2) :=
  of_words rfl rfl (by decide)
theorem si (r1 : Reg) (x2 : Reg) (i2 : Word) : Statement (.si r1 x2 i2) :=
  of_words rfl rfl (by decide)
theorem nop (rx : RxAddr) : Statement (.nop rx) :=
  of_rx rfl rfl (by decide)
theorem nopr (r2 : Reg) : Statement (.nopr r2) :=
  of_words rfl rfl (by decide)
theorem j (rx : RxAddr) : Statement (.j rx) :=
  of_rx rfl rfl (by decide)
theorem jr (r2 : Reg) : Statement (.jr r2) :=
  of_words rfl rfl (by decide)
theorem jbs (n : Nib) : Statement (.jbs n) :=
  of_words rfl rfl (by decide)
theorem jfs (n : Nib) : Statement (.jfs n) :=
  of_words rfl rfl (by decide)
theorem je (rx : RxAddr) : Statement (.je rx) :=
  of_rx rfl rfl (by decide)
theorem jer (r2 : Reg) : Statement (.jer r2) :=
  of_words rfl rfl (by decide)
theorem jebs (n : Nib) : Statement (.jebs n) :=
  of_words rfl rfl (by decide)
theorem jefs (n : Nib) : Statement (.jefs n) :=
  of_words rfl rfl (by decide)
theorem jn (rx : RxAddr) : Statement (.jn rx) :=
  of_rx rfl rfl (by decide)
theorem jnr (r2 : Reg) : Statement (.jnr r2) :=
  of_words rfl rfl (by decide)
theorem jnbs (n : Nib) : Statement (.jnbs n) :=
  of_words rfl rfl (by decide)
theorem jnfs (n : Nib) : Statement (.jnfs n) :=
  of_words rfl rfl (by decide)
theorem jg (rx : RxAddr) : Statement (.jg rx) :=
  of_rx rfl rfl (by decide)
theorem jgr (r2 : Reg) : Statement (.jgr r2) :=
  of_words rfl rfl (by decide)
theorem jgbs (n : Nib) : Statement (.jgbs n) :=
  of_words rfl rfl (by decide)
theorem jgfs (n : Nib) : Statement (.jgfs n) :=
  of_words rfl rfl (by decide)
theorem jge (rx : RxAddr) : Statement (.jge rx) :=
  of_rx rfl rfl (by decide)
theorem jger (r2 : Reg) : Statement (.jger r2) :=
  of_words rfl rfl (by decide)
theorem jgebs (n : Nib) : Statement (.jgebs n) :=
  of_words rfl rfl (by decide)
theorem jgefs (n : Nib) : Statement (.jgefs n) :=
  of_words rfl rfl (by decide)
theorem jle (rx : RxAddr) : Statement (.jle rx) :=
  of_rx rfl rfl (by decide)
theorem jler (r2 : Reg) : Statement (.jler r2) :=
  of_words rfl rfl (by decide)
theorem jlebs (n : Nib) : Statement (.jlebs n) :=
  of_words rfl rfl (by decide)
theorem jlefs (n : Nib) : Statement (.jlefs n) :=
  of_words rfl rfl (by decide)
theorem jl (rx : RxAddr) : Statement (.jl rx) :=
  of_rx rfl rfl (by decide)
theorem jlr (r2 : Reg) : Statement (.jlr r2) :=
  of_words rfl rfl (by decide)
theorem jlbs (n : Nib) : Statement (.jlbs n) :=
  of_words rfl rfl (by decide)
theorem jlfs (n : Nib) : Statement (.jlfs n) :=
  of_words rfl rfl (by decide)
theorem jc (rx : RxAddr) : Statement (.jc rx) :=
  of_rx rfl rfl (by decide)
theorem jcr (r2 : Reg) : Statement (.jcr r2) :=
  of_words rfl rfl (by decide)
theorem jcbs (n : Nib) : Statement (.jcbs n) :=
  of_words rfl rfl (by decide)
theorem jcfs (n : Nib) : Statement (.jcfs n) :=
  of_words rfl rfl (by decide)
theorem jnc (rx : RxAddr) : Statement (.jnc rx) :=
  of_rx rfl rfl (by decide)
theorem jncr (r2 : Reg) : Statement (.jncr r2) :=
  of_words rfl rfl (by decide)
theorem jncbs (n : Nib) : Statement (.jncbs n) :=
  of_words rfl rfl (by decide)
theorem jncfs (n : Nib) : Statement (.jncfs n) :=
  of_words rfl rfl (by decide)

end Sys2Proof.Laws.EncodingShape
end

