-- ==== Sys2Proof/Laws/Special.lean ====
section
/-! SUPPORT. What the shared operations of COPY, SBOD, GCHAR, XMIT, RTD and RMA do (`40_load_store.md` R175,
`46_special.md` R371 to R374, R389 to R392, R403): when blocks overlap, what turns SBA on again, the bits
that are written, the characters that are moved. -/

namespace Sys2Proof.Machine

/-! ## Bits (R372) -/

/-- Writing a bit, at what it may change. -/
theorem writeBit_after {ea : Word} {k : Nat} {b : Bool} {s t : State} (e : writeBit ea k b s = .ok () t) :
    s.AfterAccess t := by
  obtain ⟨h, u, hr, hw⟩ := Res.bind_eq_ok.1 e
  exact (readHalf_after hr).access.trans (writeHalf_after hw)

/-- Writing several bits, at what it may change. -/
theorem writeBits_after {k : Nat} {l : List (Word × Bool)} {s t : State}
    (e : writeBits k l s = .ok () t) : s.AfterAccess t := by
  induction l generalizing s with
  | nil =>
    cases e
    exact State.AfterAccess.refl _
  | cons c rest ih =>
    obtain ⟨_, u, hb, hr⟩ := Res.bind_eq_ok.1 e
    exact (writeBit_after hb).trans (ih hr)

/-- Turning TAM off changes one register of set 3 and what an access may change. -/
theorem turnTamOff_after {port : Nat} {s t : State} (e : turnTamOff port s = .ok () t) :
    ∃ (u : State) (w : Word), s.tick.AfterAccess u ∧
      t = u.tick.setRegIn 3#4 (tamRegister s.params (port / 16)) w := by
  obtain ⟨_, u, hb, ht⟩ := Res.bind_eq_ok.1 e
  cases ht
  exact ⟨u, _, writeBit_after hb, rfl⟩

/-! ## A character in the ring (R372, R374, R402) -/

/-- The bauds at whose beginning the line changes (R372). -/
theorem mem_charEdges {bauds : List Bool} {j : Nat} :
    j ∈ charEdges bauds ↔ j < bauds.length ∧ bauds.getD j true ≠ (true :: bauds).getD j true := by
  simp [charEdges]

/-- "No more than ten (worst case) memory references" (R372). -/
theorem transitions_length (s : State) (group start width baud : Nat) (past rightFirst : Bool) (c : Byte) :
    (s.transitions group start width baud past (charBauds rightFirst c)).length ≤ 10 := by
  unfold State.transitions charEdges
  rw [List.length_map]
  refine ((List.filter_sublist.trans List.filter_sublist).length_le).trans ?_
  simp [charBauds]

/-- A transition goes to an area of phase 0 or 3, less than half a frame on (R402). -/
theorem outputOffset_spec {p : Config.Params} (h : 0 < p.asyncGroups) (offset : Nat) :
    6 * p.asyncGroups ∣ outputOffset p offset ∧ offset ≤ outputOffset p offset ∧
      outputOffset p offset < offset + 6 * p.asyncGroups := by
  have hm := Nat.div_add_mod (offset + 6 * p.asyncGroups - 1) (6 * p.asyncGroups)
  have hl := Nat.mod_lt (offset + 6 * p.asyncGroups - 1) (show 0 < 6 * p.asyncGroups by omega)
  simp only [outputOffset]
  rw [Nat.mul_comm] at hm
  exact ⟨Nat.dvd_mul_left _ _, by omega, by omega⟩

/-- A character placed in a word stands there (R374). -/
theorem withChar_getLsbD {place k : Nat} (w : Word) (c : Byte) (hp : place ≤ 24) (hk : k < 8) :
    (withChar w place c).getLsbD (place + k) = c.getLsbD k := by
  have : place + k < 32 := by omega
  simp only [withChar, BitVec.getLsbD_or, BitVec.getLsbD_and, BitVec.getLsbD_not, BitVec.getLsbD_shiftLeft,
    BitVec.getLsbD_setWidth, this, Nat.add_sub_cancel_left]
  interval_cases k <;> simp

/-- The bits of a character are its bauds, from one end or from the other (R374). -/
theorem charOf_getLsbD {k : Nat} (rightFirst : Bool) (bauds : List Bool) (hk : k < 8) :
    (charOf rightFirst bauds).getLsbD k = bauds.getD (if rightFirst then k else 7 - k) true := by
  have all (b0 b1 b2 b3 b4 b5 b6 b7 : Bool) : ∀ j < 8,
      ([b0, b1, b2, b3, b4, b5, b6, b7].foldr (fun (b : Bool) (c : Byte) => (c <<< 1) ||| if b then 1#8 else 0#8)
        0#8).getLsbD j = [b0, b1, b2, b3, b4, b5, b6, b7].getD j true := by
    revert b0 b1 b2 b3 b4 b5 b6 b7
    decide +kernel
  have h := all (bauds.getD (if rightFirst then 0 else 7) true) (bauds.getD (if rightFirst then 1 else 6) true)
    (bauds.getD (if rightFirst then 2 else 5) true) (bauds.getD (if rightFirst then 3 else 4) true)
    (bauds.getD (if rightFirst then 4 else 3) true) (bauds.getD (if rightFirst then 5 else 2) true)
    (bauds.getD (if rightFirst then 6 else 1) true) (bauds.getD (if rightFirst then 7 else 0) true) k hk
  exact h.trans (by interval_cases k <;> rfl)

/-! ## Blocks (R175) -/

/-- The halfword a number of halfwords below another, modulo 2^20. -/
theorem programAddr_sub (w : Word) (m : Nat) :
    (programAddr (w - BitVec.ofNat 32 (2 * m))).toNat / 2 =
      ((programAddr w).toNat / 2 + 0x80000 - m % 0x80000) % 0x80000 := by
  have := w.isLt
  simp only [programAddr, BitVec.toNat_setWidth, BitVec.toNat_sub, BitVec.toNat_ofNat]
  omega

/-- Two addresses name one halfword. -/
theorem evenAddr_eq_iff (a b : Addr) : evenAddr a = evenAddr b ↔ a.toNat / 2 = b.toNat / 2 := by
  rw [← BitVec.toNat_inj, evenAddr_toNat, evenAddr_toNat, evenBase, evenBase]
  omega

/-- Two blocks overlap: they have a halfword in common. -/
theorem rangesOverlap_iff {src dst : Word} {n : Nat} (hn : 0 < n) :
    rangesOverlap src dst n = true ↔ ∃ j k, j < n ∧ k < n ∧
      evenAddr (programAddr (src - BitVec.ofNat 32 (2 * (n - 1 - j)))) =
        evenAddr (programAddr (dst - BitVec.ofNat 32 (2 * (n - 1 - k)))) := by
  have hs := (programAddr src).isLt
  have hd := (programAddr dst).isLt
  simp only [evenAddr_eq_iff, programAddr_sub, rangesOverlap, Bool.or_eq_true, decide_eq_true_eq]
  constructor
  · generalize hD : ((programAddr dst).toNat / 2 + 0x80000 - (programAddr src).toNat / 2) % 0x80000 = d
    rintro (h | h)
    · exact ⟨n - 1, n - 1 - d, by omega, by omega, by omega⟩
    · exact ⟨n - 1 - (0x80000 - d), n - 1, by omega, by omega, by omega⟩
  · rintro ⟨j, k, hj, hk, h⟩
    omega

/-! ## The control storage (R371, R374, R403) -/

/-- What turning SBA on again may change (R403): SBA of the ports, the left halves of set 3, and what an
access may change. -/
structure State.AfterRearm (s t : State) : Prop where
  access : { s with regs := t.regs }.AfterAccess t
  tam : ∀ r, (t.regIn 3#4 r).extractLsb' 0 16 = (s.regIn 3#4 r).extractLsb' 0 16
  others : ∀ k r, k ≠ 3#4 → t.regIn k r = s.regIn k r

theorem State.AfterAccess.regIn {s t : State} (h : s.AfterAccess t) (k : Nib) (r : Reg) :
    t.regIn k r = s.regIn k r := by
  rw [h.1]
  rfl

theorem State.AfterAccess.rearm {s t : State} (h : s.AfterAccess t) : s.AfterRearm t := by
  have hr : t.regs = s.regs := by rw [h.1]
  exact ⟨by rw [hr]; exact h, fun r => by rw [h.regIn], fun k r _ => h.regIn k r⟩

theorem State.AfterRearm.trans {s t u : State} (h : s.AfterRearm t) (k : t.AfterRearm u) :
    s.AfterRearm u :=
  ⟨⟨by rw [k.access.1, h.access.1], fun hs => k.access.2 (h.access.2 hs)⟩,
    fun r => (k.tam r).trans (h.tam r), fun a r ha => (k.others a r ha).trans (h.others a r ha)⟩

theorem State.AfterRearm.params {s t : State} (h : s.AfterRearm t) : t.params = s.params := by
  rw [h.access.1]

/-- A change of SBA leaves TAM alone. -/
theorem withSba_tam (k : Nat) (hk : k < 16) (on : Bool) (w : Word) :
    (withSba k on w).extractLsb' 0 16 = w.extractLsb' 0 16 := by
  unfold withSba
  interval_cases k <;> cases on <;> ext i hi <;> interval_cases i <;> simp

/-- A change of SBA, at what it may change (R402). -/
theorem State.setSba_after (s : State) (port : Nat) (on : Bool) : s.AfterRearm (s.setSba port on) := by
  unfold State.setSba
  split
  · refine ⟨⟨rfl, id⟩, fun r => ?_, fun k r hk => State.regIn_setRegIn_other _ _ _ _ _ _ (by simp [hk])⟩
    by_cases hr : r = tamRegister s.params (port / 16)
    · subst hr
      rw [State.regIn_setRegIn_same, withSba_tam _ (Nat.mod_lt _ (by decide))]
    · rw [State.regIn_setRegIn_other _ _ _ _ _ _ (by simp [hr])]
  · exact (State.AfterAccess.refl s).rearm

/-- Turning SBA on for a list of ports, at what it may change (R403). -/
theorem rearmList_after {n : Nat} {entry : Half} {s t : State} (e : rearmList n entry s = .ok () t) :
    s.AfterRearm t := by
  induction n generalizing entry s with
  | zero =>
    cases e
    exact (State.AfterAccess.refl _).rearm
  | succ n ih =>
    unfold rearmList at e
    split at e
    · cases e
      exact (State.AfterAccess.refl _).rearm
    · obtain ⟨next, u, hr, e'⟩ := Res.bind_eq_ok.1 e
      exact ((s.setSba_after _ true).trans (readHalf_after hr).access.rearm).trans (ih e')

/-- Serving an entry of the control ring, at what it may change (R403). -/
theorem rearm_after {index : Nat} {s t : State} (e : rearm index s = .ok () t) : s.AfterRearm t := by
  obtain ⟨entry, u, hr, e'⟩ := Res.bind_eq_ok.1 e
  refine (readHalf_after hr).access.rearm.trans ?_
  split at e'
  · cases e'
    exact (State.AfterAccess.refl _).rearm
  · obtain ⟨_, v, hl, hw⟩ := Res.bind_eq_ok.1 e'
    exact (rearmList_after hl).trans ((State.AfterRead.tick v).access.trans (writeHalf_after hw)).rearm

/-- Linking a port into the control ring, at what it may change (R374). -/
theorem linkPort_after {port : Nat} {length : Half} {s t : State} (e : linkPort port length s = .ok () t) :
    s.AfterAccess t := by
  obtain ⟨head, u, hr, e'⟩ := Res.bind_eq_ok.1 e
  obtain ⟨_, v, hl, hw⟩ := Res.bind_eq_ok.1 e'
  exact ((State.AfterRead.tick s).trans (readHalf_after hr)).access.trans
    ((writeHalf_after hl).trans (writeHalf_after hw))

theorem State.ringOffset_lt (s : State) (index : Word) : s.ringOffset index < 2 ^ 32 :=
  Nat.lt_of_le_of_lt (Nat.mod_le _ _) (BitVec.isLt _)

/-- One step of SBX is F/3 round the ring (R400, R403). -/
theorem State.advanceSbx_offset (s : State) (hp : s.params.asyncGroups ≤ 16) :
    s.advanceSbx.ringOffset (s.advanceSbx.regIn 1#4 7#4) =
      (s.ringOffset (s.regIn 1#4 7#4) + asyncThird s.params) % asyncRingBytes s.params := by
  have hx := s.ringOffset_lt (s.regIn 1#4 7#4)
  generalize hx' : s.ringOffset (s.regIn 1#4 7#4) = x at hx
  have hs : (x + asyncThird s.params) % asyncRingBytes s.params < 2 ^ 32 := by
    rcases Nat.eq_zero_or_pos s.params.asyncGroups with h | h
    · simpa [asyncThird, asyncRingBytes, asyncFrameBytes, asyncFiveFrames, h] using hx
    · refine (Nat.mod_lt _ ?_).trans ?_ <;>
        simp only [asyncRingBytes, asyncFrameBytes, asyncFiveFrames] <;> omega
  have h13 : s.advanceSbx.regIn 1#4 13#4 = s.regIn 1#4 13#4 := by
    unfold State.advanceSbx
    rw [State.regIn_setRegIn_other _ _ _ _ _ _ (by decide), State.regIn_setRegIn_other _ _ _ _ _ _ (by decide)]
  have h7 : s.advanceSbx.regIn 1#4 7#4 =
      BitVec.ofNat 32 ((x + asyncThird s.params) % asyncRingBytes s.params) - s.regIn 1#4 13#4 := by
    unfold State.advanceSbx
    rw [State.regIn_setRegIn_other _ _ _ _ _ _ (by decide), State.regIn_setRegIn_same, hx']
  unfold State.ringOffset
  rw [h13, h7, BitVec.sub_add_cancel, BitVec.toNat_ofNat, Nat.mod_eq_of_lt hs]
  exact Nat.mod_mod _ _

/-- After the scanner has advanced `n` steps: SBX and the control index are that far on, and no other
register has changed but SBA of ports in set 3; memory keeps its form (R403). -/
theorem scanSteps_after {after : Bool} {n : Nat} {s t : State} (hp : s.params.asyncGroups ≤ 16)
    (e : scanSteps after n s = .ok () t) :
    { s with regs := t.regs }.AfterAccess t ∧
    (∀ r, (t.regIn 3#4 r).extractLsb' 0 16 = (s.regIn 3#4 r).extractLsb' 0 16) ∧
    (∀ k r, k ≠ 3#4 → ¬(k = 1#4 ∧ (r = 4#4 ∨ r = 7#4)) → t.regIn k r = s.regIn k r) ∧
    (t.regIn 1#4 4#4 = if n = 0 then s.regIn 1#4 4#4 else
      BitVec.ofNat 32 (((s.regIn 1#4 4#4).toNat + 2 * n) % 0x200)) ∧
    t.ringOffset (t.regIn 1#4 7#4) =
      (s.ringOffset (s.regIn 1#4 7#4) + asyncThird s.params * n) % asyncRingBytes s.params := by
  induction n generalizing s with
  | zero =>
    cases e
    refine ⟨State.AfterAccess.refl _, fun _ => rfl, fun _ _ _ _ => rfl, rfl, ?_⟩
    simp [State.ringOffset]
  | succ n ih =>
    obtain ⟨_, u, hr, e'⟩ := Res.bind_eq_ok.1 e
    have ha := rearm_after hr
    have hu : u.advanceSbx.params = s.params := ha.params
    obtain ⟨i1, i2, i3, i4, i5⟩ := ih (by rw [hu]; exact hp) e'
    have hk (k : Nib) (r : Reg) (hk : k ≠ 3#4) (h : ¬(k = 1#4 ∧ (r = 4#4 ∨ r = 7#4))) :
        u.advanceSbx.regIn k r = s.regIn k r := by
      unfold State.advanceSbx
      rw [State.regIn_setRegIn_other _ _ _ _ _ _ (fun c => h ⟨c.1, .inl c.2⟩),
        State.regIn_setRegIn_other _ _ _ _ _ _ (fun c => h ⟨c.1, .inr c.2⟩), ha.others k r hk]
    have h4 : u.advanceSbx.regIn 1#4 4#4 = BitVec.ofNat 32 (((s.regIn 1#4 4#4).toNat + 2) % 0x200) := by
      unfold State.advanceSbx
      rw [State.regIn_setRegIn_same, ha.others 1#4 4#4 (by decide)]
    refine ⟨⟨by rw [i1.1]; simp only [State.advanceSbx, State.setRegIn]; rw [ha.access.1],
        fun hs => i1.2 (ha.access.2 hs)⟩,
      fun r => ?_, fun k r a b => (i3 k r a b).trans (hk k r a b), ?_, ?_⟩
    · rw [i2, State.advanceSbx, State.regIn_setRegIn_other _ _ _ _ _ _ (by simp),
        State.regIn_setRegIn_other _ _ _ _ _ _ (by simp), ha.tam]
    · rw [i4, h4, if_neg (Nat.succ_ne_zero n)]
      split
      · subst n
        rfl
      · congr 1
        simp only [BitVec.toNat_ofNat]
        omega
    · have h7 : u.ringOffset (u.regIn 1#4 7#4) = s.ringOffset (s.regIn 1#4 7#4) := by
        simp only [State.ringOffset, ha.others 1#4 _ (by decide), ha.params]
      rw [i5, State.advanceSbx_offset _ (by rw [ha.params]; exact hp), h7, hu, ha.params, Nat.mod_add_mod,
        Nat.mul_succ, Nat.add_assoc, Nat.add_comm (asyncThird s.params)]

/-! ## Characters (R389 to R392) -/

/-- Moving one character, at what it may change. -/
theorem moveChar_after {rtd : Bool} {held : Option Word} {record buffer : Word} {b : Byte} {s t : State}
    (e : moveChar rtd held record buffer s = .ok b t) : s.AfterAccess t := by
  unfold moveChar at e
  split at e
  · obtain ⟨x, u, hr, e'⟩ := Res.bind_eq_ok.1 e
    obtain ⟨_, v, hw, hv⟩ := Res.bind_eq_ok.1 e'
    cases hv
    exact (readByte_after hr).access.trans (writeByte_after hw)
  · split at e
    · obtain ⟨_, v, hw, hv⟩ := Res.bind_eq_ok.1 e
      cases hv
      exact writeHalf_after hw
    · obtain ⟨x, u, hr, e'⟩ := Res.bind_eq_ok.1 e
      obtain ⟨_, v, hw, hv⟩ := Res.bind_eq_ok.1 e'
      cases hv
      exact (readByte_after hr).access.trans (writeByte_after hw)

/-- A whole copy, at what it may change. -/
theorem moveRecord_after {rtd : Bool} {n : Nat} {held : Option Word} {record buffer : Word} {m : Moved}
    {s t : State} (e : moveRecord rtd n held record buffer s = .ok m t) : s.AfterAccess t := by
  induction n generalizing held record buffer s with
  | zero =>
    unfold moveRecord at e
    split at e <;> cases e <;> exact (State.AfterRead.tick s).access
  | succ n ih =>
    unfold moveRecord at e
    split at e
    · cases e
      exact State.AfterAccess.refl _
    · obtain ⟨b, u, hc, e'⟩ := Res.bind_eq_ok.1 e
      refine (moveChar_after hc).trans ?_
      split at e'
      · cases e'
        exact State.AfterAccess.refl _
      · split at e'
        · cases e'
          exact State.AfterAccess.refl _
        · exact ih e'

/-- At the end of a bufferlet a copy leaves to NEXT (R396). -/
theorem moveRecord_full {rtd : Bool} {n : Nat} {held : Option Word} {record buffer : Word} (s : State)
    (h : bufferletEnd (bufferPlace rtd buffer) = true) :
    moveRecord rtd (n + 1) held record buffer s = .ok ⟨1, n + 1, record, bufferPlace rtd buffer⟩ s := by
  rw [moveRecord, if_pos h]

/-- A character of code 0 to 3 is stored, and not counted (R392). -/
theorem moveRecord_special {rtd : Bool} {n : Nat} {held : Option Word} {record buffer : Word} {b : Byte}
    {s t : State} (h : bufferletEnd (bufferPlace rtd buffer) = false)
    (e : moveChar rtd held record buffer s = .ok b t) (hm : t.pend.mac = false) (hb : b.toNat < 4) :
    moveRecord rtd (n + 1) held record buffer s =
      .ok ⟨b.toNat + 2, n + 1, record + 1#32, buffer + 1#32⟩ t := by
  simp [moveRecord, h, e, hm, hb]

/-- Any other character is stored and counted, and the copy goes on. -/
theorem moveRecord_plain {rtd : Bool} {n : Nat} {held : Option Word} {record buffer : Word} {b : Byte}
    {s t : State} (h : bufferletEnd (bufferPlace rtd buffer) = false)
    (e : moveChar rtd held record buffer s = .ok b t) (hm : t.pend.mac = false) (hb : 4 ≤ b.toNat) :
    moveRecord rtd (n + 1) held record buffer s =
      moveRecord rtd n none (record + 1#32) (buffer + 1#32) t := by
  simp [moveRecord, h, e, hm, Nat.not_lt.2 hb]

/-! ## A byte stored in main memory (R71) -/

/-- A byte store that reaches main memory. -/
theorem writeByte_plain {ea : Word} {b : Byte} {pa : Addr} {s : State} (hm : s.pend.mac = false)
    (h : s.StoresTo ea pa) :
    writeByte ea b s =
      .ok () (s.setMem (s.mem.setHalf pa (withByteAt (programAddr ea) (s.mem.half pa) b))) := by
  obtain ⟨ht, hp⟩ := h
  simp only [isPlain, Bool.and_eq_true, Bool.not_eq_true'] at hp
  obtain ⟨⟨⟨h1, h2⟩, h3⟩, h4⟩ := hp
  simp [writeByte, hm, ht, absReadHalf, absWriteHalf, h1, h2, h3, h4]

/-- A byte replaced in its halfword is the byte there. -/
theorem byteAt_withByteAt (a : Addr) (h : Half) (b : Byte) : byteAt a (withByteAt a h b) = b := by
  unfold byteAt withByteAt
  split <;> ext i hi <;> simp <;> rw [BitVec.getLsbD_append] <;> simp [hi]

end Sys2Proof.Machine
end

