-- ==== Sys2Proof/Laws/Step.lean ====
section
/-! SUPPORT. What a step does at a boundary without events, and which request it takes: one lemma for each
of the three levels. -/

namespace Sys2Proof.Machine

/-- A step at a boundary at which the environment does nothing. -/
theorem step_calm {s : State} (h : s.halt = none) (he : s.env.headD [] = []) :
    step s = afterBoundary s.nextEvents := by
  unfold step boundary
  rw [he]
  simp [h, absorbAll]

/-- With no other condition pending, the I/O requests are looked at. -/
theorem takePending_quiet {s : State}
    (hp : s.pend = { earlyPowerDown := false, consoleAttention := false, parityError := false,
                     powerRestored := false, mac := false, macWaiting := false, single := false }) :
    takePending s = takeRequest s := by
  simp [takePending, hp]

/-- A step that takes the one request that is pending. -/
theorem step_request {s : State} {r : IoRequest} (h : s.Requested r) {o : Out}
    (ho : takeRequest { s with env := s.env.tail, copyBreak := none } = some o) : step s = o := by
  obtain ⟨h1, h2, h3, h4, h5, h6⟩ := h
  rw [step_calm h1 h2, State.nextEvents_calm h3, afterBoundary, takePending_quiet (by simpa using h4), ho]
  simp [h1]

/-- Sets 8 to F are those whose number has its first bit set. -/
theorem set_upper_half (q : BitVec 4) : q.getMsbD 0 = decide (8 ≤ q.toNat) := by
  revert q
  decide

/-- Sets C to F are those whose number has its first two bits set. -/
theorem set_upper_quarter (q : BitVec 4) : (q.getMsbD 0 && q.getMsbD 1) = decide (12 ≤ q.toNat) := by
  revert q
  decide

/-- A level is enabled when I/O interrupts are and the register set admits it (R32). -/
theorem levelEnabled_of_open {s : State} {level : IoLevel} (hi : s.psw.i = true) (ho : s.LevelOpen level) :
    levelEnabled s level = true := by
  cases level with
  | atn0 => exact hi
  | atn1 =>
    rw [levelEnabled, hi, set_upper_half]
    unfold State.LevelOpen at ho
    cases h : s.params.enhancedInterrupts <;> simp_all
  | atn2 =>
    rw [levelEnabled, hi, set_upper_quarter]
    unfold State.LevelOpen at ho
    cases h : s.params.enhancedInterrupts <;> simp_all

/-- The acknowledge of the one request there is leaves none (R470). -/
theorem State.acknowledge_only {s : State} {r : IoRequest} (h : s.requests = [r]) :
    s.acknowledge r.level = { s with requests := [] } := by
  simp [State.acknowledge, h, dropRequest]

/-- The one request, on level 0. -/
theorem takeRequest_level0 {s : State} {r : IoRequest} (h : s.requests = [r]) (hi : s.psw.i = true)
    (hl : r.level = .atn0) : takeRequest s = some (takeLevel0 r { s with requests := [] }) := by
  rw [← State.acknowledge_only h, hl]
  simp [takeRequest, enabledRequest, levelEnabled_of_open hi (level := .atn0) trivial, firstRequest, h, hl]

/-- The one request, on level 1. -/
theorem takeRequest_level1 {s : State} {r : IoRequest} (h : s.requests = [r]) (hi : s.psw.i = true)
    (hl : r.level = .atn1) (ho : s.LevelOpen .atn1) :
    takeRequest s = some (takeLevel1 r { s with requests := [] }) := by
  rw [← State.acknowledge_only h, hl]
  simp [takeRequest, enabledRequest, levelEnabled_of_open hi ho, firstRequest, h, hl]

/-- The one request, on level 2. -/
theorem takeRequest_level2 {s : State} {r : IoRequest} (h : s.requests = [r]) (hi : s.psw.i = true)
    (hl : r.level = .atn2) (ho : s.LevelOpen .atn2) :
    takeRequest s = some (takeLevel2 r { s with requests := [] }) := by
  rw [← State.acknowledge_only h, hl]
  simp [takeRequest, enabledRequest, levelEnabled_of_open hi ho, firstRequest, h, hl]

/-- The sync range by its numbers (R476). -/
theorem isSyncDevice_eq (s : State) (dev : Half) : isSyncDevice s.params dev = s.syncDevice dev := by
  have low (k : Byte) : (k ≤ deviceByte dev) = (k.toNat ≤ dev.toNat % 256) := by
    simp [deviceByte, BitVec.le_def]
  have high (k : Byte) : (deviceByte dev ≤ k) = (dev.toNat % 256 ≤ k.toNat) := by
    simp [deviceByte, BitVec.le_def]
  simp only [isSyncDevice, State.syncDevice, low, high]
  cases s.params.secondSyncCard <;> rfl

end Sys2Proof.Machine
end

