-- ==== Sys2Proof/Tests/Slice0.lean ====
section
/-! SUPPORT. The model's own tests: decoding, well-formedness, single steps taken from the spec's test
vectors, and for every statement with hypotheses a state and operands that meet them. -/

set_option Elab.async false

namespace Sys2Proof.Machine

/-- A state with some MAC registers replaced. -/
def State.described (s : State) (ds : List (Nib × Word)) : State :=
  { s with macDesc := ds.foldl (fun v d => v.set d.1.toNat d.2 d.1.isLt) s.macDesc }

end Sys2Proof.Machine

namespace Sys2Proof.Tests

open Sys2Proof Sys2Proof.Machine

/-- The state after reset with a program counter, a PSW, some registers (set, register, value) and some
halfwords of memory. -/
def given (pc : Addr) (psw : Half) (regs : List (Nib × Reg × Word)) (halves : List (Addr × Half)) :
    State :=
  regs.foldl (fun s r => s.setRegIn r.1 r.2.1 r.2.2)
    { State.reset with
      pc := pc
      psw := Psw.ofBits psw
      mem := halves.foldl (fun m h => m.setHalf h.1 h.2) [] }

/-- The words decode to an instruction that answers a next state with a property. -/
def yields (s : State) (ws : List Half) (p : State → Bool) : Bool :=
  match decode ws with
  | .instr i =>
    match exec i s with
    | .next t => p t
    | _ => false
  | _ => false

/-- The flags V, G and L. -/
def vgl (t : State) : Bool × Bool × Bool := (t.psw.v, t.psw.g, t.psw.l)

/-- An operand at 0x400, without indexing. -/
def at400 : RxAddr := .rx1 0#4 0x400#14

/-- An operand at 0x401, without indexing. -/
def at401 : RxAddr := .rx1 0#4 0x401#14

/-- A service that does nothing but write these registers, of line 0's output or input interrupt. -/
def serviceOf (output : Bool) (asyncRegs : List (Nib × Reg × Word)) : Service :=
  { output := output, syncInput := none, line := 0, unread := 0#16, relocated := false, asyncRegs := asyncRegs,
    stores := [] }

/-- A level 2 request of device 12. -/
def request12 : IoRequest := { level := .atn2, ack := some 0x0012#16, service := serviceOf false [] }

/-! ## WellFormed: a mask that has an extended mnemonic is refused, any other is not -/

theorem test_wf_jt : (Instr.jt 0#4 at400).wellFormed = false ∧ (Instr.jt 15#4 at400).wellFormed = true := by
  decide

theorem test_wf_jf : (Instr.jf 3#4 at400).wellFormed = false ∧ (Instr.jf 4#4 at400).wellFormed = true := by
  decide

theorem test_wf_jtr : (Instr.jtr 8#4 3#4).wellFormed = false ∧ (Instr.jtr 7#4 3#4).wellFormed = true := by
  decide

theorem test_wf_jfr : (Instr.jfr 1#4 3#4).wellFormed = false ∧ (Instr.jfr 9#4 3#4).wellFormed = true := by
  decide

theorem test_wf_jtbs : (Instr.jtbs 2#4 3#4).wellFormed = false ∧ (Instr.jtbs 0#4 3#4).wellFormed = true := by
  decide

theorem test_wf_jtfs : (Instr.jtfs 8#4 3#4).wellFormed = false ∧ (Instr.jtfs 0#4 3#4).wellFormed = true := by
  decide

theorem test_wf_jfbs : (Instr.jfbs 0#4 3#4).wellFormed = false ∧ (Instr.jfbs 5#4 3#4).wellFormed = true := by
  decide

theorem test_wf_jffs : (Instr.jffs 3#4 3#4).wellFormed = false ∧ (Instr.jffs 6#4 3#4).wellFormed = true := by
  decide

/-- An ill-formed term is not what its words decode to. -/
theorem test_wf_decodes : decode (encode (.jt 0#4 at400)) = .instr (.nop at400) := by decide

/-! ## Decoding: the words of every instruction, from the op codes of R140 and the masks of R269 -/

theorem test_decode_rr_1 : ∀ p ∈ ([
    ([0x013C#16], .jalr 3#4 12#4),
    ([0x025C#16], .jtr 5#4 12#4),
    ([0x035C#16], .jfr 5#4 12#4),
    ([0x043C#16], .nr 3#4 12#4),
    ([0x053C#16], .clr 3#4 12#4),
    ([0x063C#16], .or 3#4 12#4),
    ([0x073C#16], .xr 3#4 12#4),
    ([0x083C#16], .lr 3#4 12#4),
    ([0x093C#16], .cr 3#4 12#4),
    ([0x0A3C#16], .ar 3#4 12#4),
    ([0x0B3C#16], .sr 3#4 12#4),
    ([0x0C3C#16], .mhr 3#4 12#4),
    ([0x0D3C#16], .dhr 3#4 12#4),
    ([0x0E3C#16], .rma1 3#4 12#4),
    ([0x0F3C#16], .rma2 3#4 12#4),
    ([0x123C#16], .lhr 3#4 12#4),
    ([0x133C#16], .sbod 3#4 12#4),
    ([0x143C#16], .xmit 3#4 12#4),
    ([0x153C#16], .spm 3#4 12#4),
    ([0x163C#16], .gchar 3#4 12#4),
    ([0x183C#16], .lpswr 3#4 12#4),
    ([0x1C3C#16], .mr 3#4 12#4),
    ([0x1D3C#16], .dr 3#4 12#4),
    ([0x343C#16], .exhr 3#4 12#4)] : List (List Half × Instr)), decode p.1 = .instr p.2 := by
  decide +kernel

theorem test_decode_rr_2 : ∀ p ∈ ([
    ([0x353C#16], .scan 3#4 12#4),
    ([0x363C#16], .align 3#4 12#4),
    ([0x373C#16], .cksum 3#4 12#4),
    ([0x383C#16], .gci 3#4 12#4),
    ([0x393C#16], .wci 3#4 12#4),
    ([0x3A3C#16], .cbct 3#4 12#4),
    ([0x3B3C#16], .rtd1 3#4 12#4),
    ([0x3C3C#16], .rtd2 3#4 12#4),
    ([0x3E3C#16], .arand 3#4 12#4),
    ([0x3F3C#16], .copy 3#4 12#4),
    ([0x923C#16], .stbr 3#4 12#4),
    ([0x933C#16], .lbr 3#4 12#4),
    ([0x943C#16], .exbr 3#4 12#4),
    ([0x953C#16], .epsr 3#4 12#4),
    ([0x993C#16], .cio 3#4 12#4),
    ([0x9A3C#16], .wdr 3#4 12#4),
    ([0x9B3C#16], .rdr 3#4 12#4),
    ([0x9D3C#16], .ssr 3#4 12#4),
    ([0x9E3C#16], .ocr 3#4 12#4)] : List (List Half × Instr)), decode p.1 = .instr p.2 := by
  decide +kernel

theorem test_decode_sf : ∀ p ∈ ([
    ([0x1039#16], .srls 3#4 9#4),
    ([0x1139#16], .slls 3#4 9#4),
    ([0x2059#16], .jtbs 5#4 9#4),
    ([0x2159#16], .jtfs 5#4 9#4),
    ([0x2259#16], .jfbs 5#4 9#4),
    ([0x2359#16], .jffs 5#4 9#4),
    ([0x2439#16], .lis 3#4 9#4),
    ([0x2539#16], .lcs 3#4 9#4),
    ([0x2639#16], .ais 3#4 9#4),
    ([0x2739#16], .sis 3#4 9#4),
    ([0x3139#16], .jffo 3#4 9#4),
    ([0x3339#16], .jffoh 3#4 9#4),
    ([0x9039#16], .srhls 3#4 9#4),
    ([0x9139#16], .slhls 3#4 9#4)] : List (List Half × Instr)), decode p.1 = .instr p.2 := by
  decide +kernel

theorem test_decode_rx_1 : ∀ p ∈ ([
    ([0x4035#16, 0x1A2B#16], .sth 3#4 (.rx1 5#4 0x1A2B#14)),
    ([0x4135#16, 0x1A2B#16], .jal 3#4 (.rx1 5#4 0x1A2B#14)),
    ([0x4255#16, 0x1A2B#16], .jt 5#4 (.rx1 5#4 0x1A2B#14)),
    ([0x4355#16, 0x1A2B#16], .jf 5#4 (.rx1 5#4 0x1A2B#14)),
    ([0x4435#16, 0x1A2B#16], .nh 3#4 (.rx1 5#4 0x1A2B#14)),
    ([0x4535#16, 0x1A2B#16], .clh 3#4 (.rx1 5#4 0x1A2B#14)),
    ([0x4635#16, 0x1A2B#16], .oh 3#4 (.rx1 5#4 0x1A2B#14)),
    ([0x4735#16, 0x1A2B#16], .xh 3#4 (.rx1 5#4 0x1A2B#14)),
    ([0x4835#16, 0x1A2B#16], .lh 3#4 (.rx1 5#4 0x1A2B#14)),
    ([0x4935#16, 0x1A2B#16], .ch 3#4 (.rx1 5#4 0x1A2B#14)),
    ([0x4A35#16, 0x1A2B#16], .ah 3#4 (.rx1 5#4 0x1A2B#14)),
    ([0x4B35#16, 0x1A2B#16], .sh 3#4 (.rx1 5#4 0x1A2B#14)),
    ([0x4C35#16, 0x1A2B#16], .mh 3#4 (.rx1 5#4 0x1A2B#14)),
    ([0x4D35#16, 0x1A2B#16], .dh 3#4 (.rx1 5#4 0x1A2B#14)),
    ([0x5035#16, 0x1A2B#16], .st 3#4 (.rx1 5#4 0x1A2B#14)),
    ([0x5135#16, 0x1A2B#16], .am 3#4 (.rx1 5#4 0x1A2B#14)),
    ([0x5435#16, 0x1A2B#16], .n 3#4 (.rx1 5#4 0x1A2B#14)),
    ([0x5535#16, 0x1A2B#16], .cl 3#4 (.rx1 5#4 0x1A2B#14)),
    ([0x5635#16, 0x1A2B#16], .o 3#4 (.rx1 5#4 0x1A2B#14)),
    ([0x5735#16, 0x1A2B#16], .x 3#4 (.rx1 5#4 0x1A2B#14)),
    ([0x5835#16, 0x1A2B#16], .l 3#4 (.rx1 5#4 0x1A2B#14)),
    ([0x5935#16, 0x1A2B#16], .c 3#4 (.rx1 5#4 0x1A2B#14)),
    ([0x5A35#16, 0x1A2B#16], .a 3#4 (.rx1 5#4 0x1A2B#14)),
    ([0x5B35#16, 0x1A2B#16], .s 3#4 (.rx1 5#4 0x1A2B#14))] : List (List Half × Instr)), decode p.1 = .instr p.2 := by
  decide +kernel

theorem test_decode_rx_2 : ∀ p ∈ ([
    ([0x5C35#16, 0x1A2B#16], .m 3#4 (.rx1 5#4 0x1A2B#14)),
    ([0x5D35#16, 0x1A2B#16], .d 3#4 (.rx1 5#4 0x1A2B#14)),
    ([0x6135#16, 0x1A2B#16], .ahm 3#4 (.rx1 5#4 0x1A2B#14)),
    ([0x7335#16, 0x1A2B#16], .lhl 3#4 (.rx1 5#4 0x1A2B#14)),
    ([0x7435#16, 0x1A2B#16], .tbt 3#4 (.rx1 5#4 0x1A2B#14)),
    ([0x7535#16, 0x1A2B#16], .sbt 3#4 (.rx1 5#4 0x1A2B#14)),
    ([0x7635#16, 0x1A2B#16], .rbt 3#4 (.rx1 5#4 0x1A2B#14)),
    ([0x7735#16, 0x1A2B#16], .cbt 3#4 (.rx1 5#4 0x1A2B#14)),
    ([0xC235#16, 0x1A2B#16], .lpsw 3#4 (.rx1 5#4 0x1A2B#14)),
    ([0xCC35#16, 0x1A2B#16], .srhl 3#4 (.rx1 5#4 0x1A2B#14)),
    ([0xCD35#16, 0x1A2B#16], .slhl 3#4 (.rx1 5#4 0x1A2B#14)),
    ([0xD035#16, 0x1A2B#16], .stm 3#4 (.rx1 5#4 0x1A2B#14)),
    ([0xD135#16, 0x1A2B#16], .lm 3#4 (.rx1 5#4 0x1A2B#14)),
    ([0xD235#16, 0x1A2B#16], .stb 3#4 (.rx1 5#4 0x1A2B#14)),
    ([0xD335#16, 0x1A2B#16], .lb 3#4 (.rx1 5#4 0x1A2B#14)),
    ([0xD435#16, 0x1A2B#16], .clb 3#4 (.rx1 5#4 0x1A2B#14)),
    ([0xD535#16, 0x1A2B#16], .upsw 3#4 (.rx1 5#4 0x1A2B#14)),
    ([0xDA35#16, 0x1A2B#16], .wd 3#4 (.rx1 5#4 0x1A2B#14)),
    ([0xDE35#16, 0x1A2B#16], .oc 3#4 (.rx1 5#4 0x1A2B#14)),
    ([0xE035#16, 0x1A2B#16], .ts 3#4 (.rx1 5#4 0x1A2B#14)),
    ([0xE135#16, 0x1A2B#16], .svc 3#4 (.rx1 5#4 0x1A2B#14)),
    ([0xE635#16, 0x1A2B#16], .la 3#4 (.rx1 5#4 0x1A2B#14)),
    ([0xEA35#16, 0x1A2B#16], .rrl 3#4 (.rx1 5#4 0x1A2B#14)),
    ([0xEB35#16, 0x1A2B#16], .rll 3#4 (.rx1 5#4 0x1A2B#14))] : List (List Half × Instr)), decode p.1 = .instr p.2 := by
  decide +kernel

theorem test_decode_rx_3 : ∀ p ∈ ([
    ([0xEC35#16, 0x1A2B#16], .srl 3#4 (.rx1 5#4 0x1A2B#14)),
    ([0xED35#16, 0x1A2B#16], .sll 3#4 (.rx1 5#4 0x1A2B#14)),
    ([0xEE35#16, 0x1A2B#16], .sra 3#4 (.rx1 5#4 0x1A2B#14))] : List (List Half × Instr)), decode p.1 = .instr p.2 := by
  decide +kernel

theorem test_decode_ri1 : ∀ p ∈ ([
    ([0xC335#16, 0x89AB#16], .thi 3#4 5#4 0x89AB#16),
    ([0xC435#16, 0x89AB#16], .nhi 3#4 5#4 0x89AB#16),
    ([0xC535#16, 0x89AB#16], .clhi 3#4 5#4 0x89AB#16),
    ([0xC635#16, 0x89AB#16], .ohi 3#4 5#4 0x89AB#16),
    ([0xC735#16, 0x89AB#16], .xhi 3#4 5#4 0x89AB#16),
    ([0xC835#16, 0x89AB#16], .lhi 3#4 5#4 0x89AB#16),
    ([0xC935#16, 0x89AB#16], .chi 3#4 5#4 0x89AB#16),
    ([0xCA35#16, 0x89AB#16], .ahi 3#4 5#4 0x89AB#16),
    ([0xCB35#16, 0x89AB#16], .shi 3#4 5#4 0x89AB#16)] : List (List Half × Instr)), decode p.1 = .instr p.2 := by
  decide +kernel

theorem test_decode_ri2 : ∀ p ∈ ([
    ([0xF335#16, 0x89AB#16, 0xCDEF#16], .ti 3#4 5#4 0x89ABCDEF#32),
    ([0xF435#16, 0x89AB#16, 0xCDEF#16], .ni 3#4 5#4 0x89ABCDEF#32),
    ([0xF535#16, 0x89AB#16, 0xCDEF#16], .cli 3#4 5#4 0x89ABCDEF#32),
    ([0xF635#16, 0x89AB#16, 0xCDEF#16], .oi 3#4 5#4 0x89ABCDEF#32),
    ([0xF735#16, 0x89AB#16, 0xCDEF#16], .xi 3#4 5#4 0x89ABCDEF#32),
    ([0xF835#16, 0x89AB#16, 0xCDEF#16], .li 3#4 5#4 0x89ABCDEF#32),
    ([0xF935#16, 0x89AB#16, 0xCDEF#16], .ci 3#4 5#4 0x89ABCDEF#32),
    ([0xFA35#16, 0x89AB#16, 0xCDEF#16], .ai 3#4 5#4 0x89ABCDEF#32),
    ([0xFB35#16, 0x89AB#16, 0xCDEF#16], .si 3#4 5#4 0x89ABCDEF#32)] : List (List Half × Instr)), decode p.1 = .instr p.2 := by
  decide +kernel

theorem test_decode_extended_rx : ∀ p ∈ ([
    ([0x4205#16, 0x1A2B#16], .nop (.rx1 5#4 0x1A2B#14)),
    ([0x4305#16, 0x1A2B#16], .j (.rx1 5#4 0x1A2B#14)),
    ([0x4335#16, 0x1A2B#16], .je (.rx1 5#4 0x1A2B#14)),
    ([0x4235#16, 0x1A2B#16], .jn (.rx1 5#4 0x1A2B#14)),
    ([0x4225#16, 0x1A2B#16], .jg (.rx1 5#4 0x1A2B#14)),
    ([0x4315#16, 0x1A2B#16], .jge (.rx1 5#4 0x1A2B#14)),
    ([0x4325#16, 0x1A2B#16], .jle (.rx1 5#4 0x1A2B#14)),
    ([0x4215#16, 0x1A2B#16], .jl (.rx1 5#4 0x1A2B#14)),
    ([0x4285#16, 0x1A2B#16], .jc (.rx1 5#4 0x1A2B#14)),
    ([0x4385#16, 0x1A2B#16], .jnc (.rx1 5#4 0x1A2B#14))] : List (List Half × Instr)), decode p.1 = .instr p.2 := by
  decide +kernel

theorem test_decode_extended_rr : ∀ p ∈ ([
    ([0x020C#16], .nopr 12#4),
    ([0x030C#16], .jr 12#4),
    ([0x033C#16], .jer 12#4),
    ([0x023C#16], .jnr 12#4),
    ([0x022C#16], .jgr 12#4),
    ([0x031C#16], .jger 12#4),
    ([0x032C#16], .jler 12#4),
    ([0x021C#16], .jlr 12#4),
    ([0x028C#16], .jcr 12#4),
    ([0x038C#16], .jncr 12#4)] : List (List Half × Instr)), decode p.1 = .instr p.2 := by
  decide +kernel

theorem test_decode_extended_sf : ∀ p ∈ ([
    ([0x2209#16], .jbs 9#4),
    ([0x2309#16], .jfs 9#4),
    ([0x2239#16], .jebs 9#4),
    ([0x2339#16], .jefs 9#4),
    ([0x2039#16], .jnbs 9#4),
    ([0x2139#16], .jnfs 9#4),
    ([0x2029#16], .jgbs 9#4),
    ([0x2129#16], .jgfs 9#4),
    ([0x2219#16], .jgebs 9#4),
    ([0x2319#16], .jgefs 9#4),
    ([0x2229#16], .jlebs 9#4),
    ([0x2329#16], .jlefs 9#4),
    ([0x2019#16], .jlbs 9#4),
    ([0x2119#16], .jlfs 9#4),
    ([0x2089#16], .jcbs 9#4),
    ([0x2189#16], .jcfs 9#4),
    ([0x2289#16], .jncbs 9#4),
    ([0x2389#16], .jncfs 9#4)] : List (List Half × Instr)), decode p.1 = .instr p.2 := by
  decide +kernel

/-- RX2 and RX3 forms: displacement -1, and two index registers with a 24-bit address. -/
theorem test_decode_rx_forms : ∀ p ∈ ([
    ([0x5835#16, 0xFFFF#16], .l 3#4 (.rx2 5#4 0x7FFF#15)),
    ([0x5035#16, 0x8001#16], .st 3#4 (.rx2 5#4 1#15)),
    ([0x5835#16, 0x4612#16, 0x3456#16], .l 3#4 (.rx3 5#4 6#4 0x123456#24)),
    ([0x4305#16, 0x40FF#16, 0xFFFF#16], .j (.rx3 5#4 0#4 0xFFFFFF#24))] : List (List Half × Instr)),
    decode p.1 = .instr p.2 := by decide +kernel

/-- What is no instruction: an unassigned op code, reserved RX3 bits, too few halfwords. -/
theorem test_decode_refused : decode [0x1700#16] = .illegal ∧
    decode [0xE610#16, 0x6000#16, 0x0000#16] = .rx3Reserved ∧ decode [0x5810#16] = .short ∧
    decode [0xF810#16, 0x0000#16] = .short := by decide +kernel

/-! ## Single instructions: test vectors of the spec -/

/-- LA: T1.1 of `95_test_vectors.md`. -/
theorem test_la_t1_1 :
    yields (given 0x100#20 0x0#16 [(0#4, 1#4, 0x3210#32)] []) [0xE641#16, 0x1234#16]
      (fun t => t.regIn 0#4 4#4 == 0x4444#32 && t.pc == 0x104#20 && vgl t == (false, true,
        false)) = true := by decide +kernel

/-- LA: T2.32 of `95_test_vectors.md`. -/
theorem test_la_t2_32 :
    yields (given 0x100#20 0x0#16 [(0#4, 1#4, 0x5#32)] []) [0xE610#16, 0x0000#16]
      (fun t => t.regIn 0#4 1#4 == 0x0#32 && vgl t == (false, false, false)) = true := by decide +kernel

/-- LHI: T1.11 of `95_test_vectors.md`. -/
theorem test_lhi_t1_11 :
    yields (given 0x100#20 0x0#16 [(0#4, 1#4, 0xEDCC#32)] []) [0xC841#16, 0x1234#16]
      (fun t => t.regIn 0#4 4#4 == 0x10000#32 && t.pc == 0x104#20 && vgl t == (false, true,
        false)) = true := by decide +kernel

/-- LHI: T2.15 of `95_test_vectors.md`. -/
theorem test_lhi_t2_15 :
    yields (given 0x100#20 0x0#16 [] []) [0xC810#16, 0x8000#16]
      (fun t => t.regIn 0#4 1#4 == 0xFFFF8000#32 && vgl t == (false, false,
        true)) = true := by decide +kernel

/-- LI: T1.12 of `95_test_vectors.md`. -/
theorem test_li_t1_12 :
    yields (given 0x100#20 0x0#16 [] []) [0xF820#16, 0xFFFF#16, 0xFFEE#16]
      (fun t => t.regIn 0#4 2#4 == 0xFFFFFFEE#32 && t.pc == 0x106#20 && vgl t == (false, false,
        true)) = true := by decide +kernel

/-- LI: T1.13 of `95_test_vectors.md`. -/
theorem test_li_t1_13 :
    yields (given 0x100#20 0x0#16 [(0#4, 2#4, 0xFFFFFFFF#32)] []) [0xF812#16, 0x0000#16, 0x0001#16]
      (fun t => t.regIn 0#4 1#4 == 0x0#32 && vgl t == (false, false, false)) = true := by decide +kernel

/-- LR: T1.14 of `95_test_vectors.md`. -/
theorem test_lr_t1_14 :
    yields (given 0x100#20 0x0#16 [(0#4, 5#4, 0xCAFE0001#32)] []) [0x0865#16]
      (fun t => t.regIn 0#4 6#4 == 0xCAFE0001#32 && t.pc == 0x102#20 && vgl t == (false, false,
        true)) = true := by decide +kernel

/-- LR: T2.14 of `95_test_vectors.md`. -/
theorem test_lr_t2_14 :
    yields (given 0x100#20 0x0#16 [(0#4, 1#4, 0x80000000#32)] []) [0x0811#16]
      (fun t => t.regIn 0#4 1#4 == 0x80000000#32 && vgl t == (false, false,
        true)) = true := by decide +kernel

/-- LIS: T1.15 of `95_test_vectors.md`. -/
theorem test_lis_t1_15 :
    yields (given 0x100#20 0x0#16 [(0#4, 5#4, 0xFFFFFFFF#32)] []) [0x245E#16]
      (fun t => t.regIn 0#4 5#4 == 0xE#32 && t.pc == 0x102#20 && vgl t == (false, true,
        false)) = true := by decide +kernel

/-- LIS: T2.10 of `95_test_vectors.md`. -/
theorem test_lis_t2_10 :
    yields (given 0x100#20 0x0#16 [(0#4, 0#4, 0x7#32)] []) [0x2400#16]
      (fun t => t.regIn 0#4 0#4 == 0x0#32 && vgl t == (false, false, false)) = true := by decide +kernel

/-- L: T1.16 of `95_test_vectors.md`. -/
theorem test_l_t1_16 :
    yields (given 0x100#20 0x0#16 [] [(0x200#20, 0x0102#16), (0x202#20, 0x0304#16)]) [0x5810#16,
        0x4000#16, 0x0200#16]
      (fun t => t.regIn 0#4 1#4 == 0x1020304#32 && t.pc == 0x106#20) = true := by decide +kernel

/-- L: T2.3 of `95_test_vectors.md`. -/
theorem test_l_t2_3 :
    yields (given 0x100#20 0x0#16 [] [(0x200#20, 0x1122#16), (0x202#20, 0x3344#16), (0x204#20,
        0x5566#16), (0x206#20, 0x7788#16)]) [0x5810#16, 0x0201#16]
      (fun t => t.regIn 0#4 1#4 == 0x11223344#32) = true := by decide +kernel

/-- LH: T2.4 of `95_test_vectors.md`. -/
theorem test_lh_t2_4 :
    yields (given 0x100#20 0x0#16 [] [(0x200#20, 0x8000#16)]) [0x4830#16, 0x0200#16]
      (fun t => t.regIn 0#4 3#4 == 0xFFFF8000#32 && vgl t == (false, false,
        true)) = true := by decide +kernel

/-- LH: T2.5 of `95_test_vectors.md`. -/
theorem test_lh_t2_5 :
    yields (given 0x100#20 0x0#16 [] [(0x200#20, 0x7FFF#16)]) [0x4830#16, 0x0200#16]
      (fun t => t.regIn 0#4 3#4 == 0x7FFF#32 && vgl t == (false, true, false)) = true := by decide +kernel

/-- LHL: T2.6 of `95_test_vectors.md`. -/
theorem test_lhl_t2_6 :
    yields (given 0x100#20 0x0#16 [(0#4, 3#4, 0xFFFFFFFF#32)] [(0x200#20, 0x8000#16)]) [0x7330#16,
        0x0200#16]
      (fun t => t.regIn 0#4 3#4 == 0x8000#32 && vgl t == (false, true, false)) = true := by decide +kernel

/-- LB: T2.7 of `95_test_vectors.md`. -/
theorem test_lb_t2_7 :
    yields (given 0x100#20 0x0#16 [] [(0x400#20, 0x1234#16)]) [0xD330#16, 0x0401#16]
      (fun t => t.regIn 0#4 3#4 == 0x34#32 && vgl t == (false, true, false)) = true := by decide +kernel

/-- LB: T2.9 of `95_test_vectors.md`. -/
theorem test_lb_t2_9 :
    yields (given 0x100#20 0x0#16 [(0#4, 3#4, 0xFFFFFFFF#32)] [(0x400#20, 0x00FF#16)]) [0xD330#16,
        0x0400#16]
      (fun t => t.regIn 0#4 3#4 == 0x0#32 && vgl t == (false, false, false)) = true := by decide +kernel

/-- LCS: T2.11 of `95_test_vectors.md`. -/
theorem test_lcs_t2_11 :
    yields (given 0x100#20 0x0#16 [] []) [0x2521#16]
      (fun t => t.regIn 0#4 2#4 == 0xFFFFFFFF#32 && vgl t == (false, false,
        true)) = true := by decide +kernel

/-- LCS: T2.13 of `95_test_vectors.md`. -/
theorem test_lcs_t2_13 :
    yields (given 0x100#20 0x0#16 [(0#4, 2#4, 0x9#32)] []) [0x2520#16]
      (fun t => t.regIn 0#4 2#4 == 0x0#32 && vgl t == (false, false, false)) = true := by decide +kernel

/-- LBR: T2.16 of `95_test_vectors.md`. -/
theorem test_lbr_t2_16 :
    yields (given 0x100#20 0x0#16 [(0#4, 2#4, 0x12345678#32)] []) [0x9312#16]
      (fun t => t.regIn 0#4 1#4 == 0x78#32 && vgl t == (false, true, false)) = true := by decide +kernel

/-- LBR: T2.17 of `95_test_vectors.md`. -/
theorem test_lbr_t2_17 :
    yields (given 0x100#20 0x0#16 [(0#4, 1#4, 0xFFFFFF00#32)] []) [0x9311#16]
      (fun t => t.regIn 0#4 1#4 == 0x0#32 && vgl t == (false, false, false)) = true := by decide +kernel

/-- EXHR: T2.18 of `95_test_vectors.md`. -/
theorem test_exhr_t2_18 :
    yields (given 0x100#20 0x0#16 [(0#4, 2#4, 0x18000#32)] []) [0x3412#16]
      (fun t => t.regIn 0#4 1#4 == 0x80000001#32 && t.regIn 0#4 2#4 == 0x18000#32 && vgl t == (false,
        false, true)) = true := by decide +kernel

/-- EXHR: T2.19 of `95_test_vectors.md`. -/
theorem test_exhr_t2_19 :
    yields (given 0x100#20 0x0#16 [(0#4, 1#4, 0x12345678#32)] []) [0x3411#16]
      (fun t => t.regIn 0#4 1#4 == 0x56781234#32 && vgl t == (false, true,
        false)) = true := by decide +kernel

/-- EXBR: T2.20 of `95_test_vectors.md`. -/
theorem test_exbr_t2_20 :
    yields (given 0x100#20 0x0#16 [(0#4, 1#4, 0xFFFF0000#32), (0#4, 2#4, 0xABCD#32)] []) [0x9412#16]
      (fun t => t.regIn 0#4 1#4 == 0xFFFFCDAB#32 && t.regIn 0#4 2#4 == 0xABCD#32 && vgl t == (false,
        false, true)) = true := by decide +kernel

/-- EXBR: T2.21 of `95_test_vectors.md`. -/
theorem test_exbr_t2_21 :
    yields (given 0x100#20 0x0#16 [(0#4, 1#4, 0x1234#32)] []) [0x9411#16]
      (fun t => t.regIn 0#4 1#4 == 0x3412#32 && vgl t == (false, true, false)) = true := by decide +kernel

/-- LM: T2.22 of `95_test_vectors.md`. -/
theorem test_lm_t2_22 :
    yields ((given 0x100#20 0x5#16 [(0#4, 13#4, 0xDDDDDDDD#32)] []).described [(0#4, 0x11111111#32),
        (1#4, 0x22222222#32)]) [0xD1E0#16, 0x0300#16]
      (fun t => t.regIn 0#4 13#4 == 0xDDDDDDDD#32 && t.regIn 0#4 14#4 == 0x11111111#32 &&
        t.regIn 0#4 15#4 == 0x22222222#32 && t.psw.toBits &&& 15#16 == 5#16) = true := by decide +kernel

/-- LM: T2.23 of `95_test_vectors.md`. -/
theorem test_lm_t2_23 :
    yields ((given 0x100#20 0x0#16 [(0#4, 14#4, 0x300#32)] []).described [(0#4, 0x000000AA#32), (1#4,
        0x000000BB#32), (2#4, 0x000000CC#32)]) [0xD1DE#16, 0x0000#16]
      (fun t => t.regIn 0#4 13#4 == 0xAA#32 && t.regIn 0#4 14#4 == 0xBB#32 &&
        t.regIn 0#4 15#4 == 0xCC#32) = true := by decide +kernel

/-- ST: T2.24 of `95_test_vectors.md`. -/
theorem test_st_t2_24 :
    yields (given 0x100#20 0xA#16 [(0#4, 1#4, 0x12345678#32)] []) [0x5010#16, 0x0500#16]
      (fun t => t.mem.half 0x500#20 == 0x1234#16 && t.mem.half 0x502#20 == 0x5678#16 &&
        t.mem.half 0x502#20 == 0x5678#16 && t.mem.read 0x503 == 0x78#8 &&
        t.psw.toBits &&& 15#16 == 10#16) = true := by decide +kernel

/-- ST: T2.31 of `95_test_vectors.md`. -/
theorem test_st_t2_31 :
    yields (given 0x100#20 0x0#16 [(0#4, 1#4, 0xAABBCCDD#32)] []) [0x5010#16, 0x400F#16, 0xFFFE#16]
      (fun t => t.mem.half 0xFFFFE#20 == 0xAABB#16 &&
        t.mem.half 0x0#20 == 0xCCDD#16) = true := by decide +kernel

/-- STH: T2.25 of `95_test_vectors.md`. -/
theorem test_sth_t2_25 :
    yields (given 0x100#20 0x0#16 [(0#4, 1#4, 0x12345678#32)] [(0x500#20, 0xAAAA#16), (0x502#20,
        0xAAAA#16)]) [0x4010#16, 0x0500#16]
      (fun t => t.mem.half 0x500#20 == 0x5678#16 &&
        t.mem.half 0x502#20 == 0xAAAA#16) = true := by decide +kernel

/-- STB: T2.26 of `95_test_vectors.md`. -/
theorem test_stb_t2_26 :
    yields (given 0x100#20 0x0#16 [(0#4, 1#4, 0x123456AB#32)] [(0x500#20, 0x1122#16)]) [0xD210#16,
        0x0501#16]
      (fun t => t.mem.half 0x500#20 == 0x11AB#16) = true := by decide +kernel

/-- STB: T2.27 of `95_test_vectors.md`. -/
theorem test_stb_t2_27 :
    yields (given 0x100#20 0x0#16 [(0#4, 1#4, 0x123456AB#32)] [(0x500#20, 0x1122#16)]) [0xD210#16,
        0x0500#16]
      (fun t => t.mem.half 0x500#20 == 0xAB22#16) = true := by decide +kernel

/-- STM: T2.28 of `95_test_vectors.md`. -/
theorem test_stm_t2_28 :
    yields (given 0x100#20 0x0#16 [(0#4, 14#4, 0xEEEEEEEE#32), (0#4, 15#4, 0xFFFF0000#32)] [(0x608#20,
        0x9999#16), (0x60A#20, 0x9999#16)]) [0xD0E0#16, 0x0600#16]
      (fun t => t.mem.half 0x600#20 == 0xEEEE#16 && t.mem.half 0x602#20 == 0xEEEE#16 &&
        t.mem.half 0x604#20 == 0xFFFF#16 && t.mem.half 0x606#20 == 0x0#16 &&
        t.mem.half 0x608#20 == 0x9999#16 && t.mem.half 0x60A#20 == 0x9999#16) = true := by decide +kernel

/-- STBR: T2.29 of `95_test_vectors.md`. -/
theorem test_stbr_t2_29 :
    yields (given 0x100#20 0x0#16 [(0#4, 1#4, 0xFF#32), (0#4, 2#4, 0x12345600#32)] []) [0x9212#16]
      (fun t => t.regIn 0#4 1#4 == 0xFF#32 && t.regIn 0#4 2#4 == 0x123456FF#32 && vgl t == (false,
        true, false)) = true := by decide +kernel

/-- STBR: T2.30 of `95_test_vectors.md`. -/
theorem test_stbr_t2_30 :
    yields (given 0x100#20 0x0#16 [(0#4, 1#4, 0xFFFFFF00#32), (0#4, 2#4, 0x80000055#32)] []) [0x9212#16]
      (fun t => t.regIn 0#4 2#4 == 0x80000000#32 && vgl t == (false, false,
        false)) = true := by decide +kernel

/-- N: T3.1 of `95_test_vectors.md`. -/
theorem test_n_t3_1 :
    yields (given 0x100#20 0x0#16 [(0#4, 1#4, 0xFF00FF00#32)] [(0x200#20, 0x0FF0#16), (0x202#20,
        0x0FF0#16)]) [0x5410#16, 0x0200#16]
      (fun t => t.regIn 0#4 1#4 == 0xF000F00#32 && vgl t == (false, true,
        false)) = true := by decide +kernel

/-- NH: T3.2 of `95_test_vectors.md`. -/
theorem test_nh_t3_2 :
    yields (given 0x100#20 0x0#16 [(0#4, 1#4, 0xFFFFFFFF#32)] [(0x200#20, 0x7FFF#16)]) [0x4410#16,
        0x0200#16]
      (fun t => t.regIn 0#4 1#4 == 0x7FFF#32 && vgl t == (false, true, false)) = true := by decide +kernel

/-- NH: T3.3 of `95_test_vectors.md`. -/
theorem test_nh_t3_3 :
    yields (given 0x100#20 0x0#16 [(0#4, 1#4, 0xFFFFFFFF#32)] [(0x200#20, 0x8000#16)]) [0x4410#16,
        0x0200#16]
      (fun t => t.regIn 0#4 1#4 == 0xFFFF8000#32 && vgl t == (false, false,
        true)) = true := by decide +kernel

/-- NI: T3.4 of `95_test_vectors.md`. -/
theorem test_ni_t3_4 :
    yields (given 0x100#20 0x0#16 [(0#4, 1#4, 0x12345600#32)] []) [0xF410#16, 0x0000#16, 0x00FF#16]
      (fun t => t.regIn 0#4 1#4 == 0x0#32 && vgl t == (false, false, false)) = true := by decide +kernel

/-- NHI: T3.5 of `95_test_vectors.md`. -/
theorem test_nhi_t3_5 :
    yields (given 0x100#20 0x0#16 [(0#4, 1#4, 0xFFFFFFFF#32)] []) [0xC410#16, 0x00FF#16]
      (fun t => t.regIn 0#4 1#4 == 0xFF#32 && vgl t == (false, true, false)) = true := by decide +kernel

/-- NHI: T3.6 of `95_test_vectors.md`. -/
theorem test_nhi_t3_6 :
    yields (given 0x100#20 0x0#16 [(0#4, 1#4, 0xFFFFFFFF#32)] []) [0xC410#16, 0xFF00#16]
      (fun t => t.regIn 0#4 1#4 == 0xFFFFFF00#32 && vgl t == (false, false,
        true)) = true := by decide +kernel

/-- NR: T3.7 of `95_test_vectors.md`. -/
theorem test_nr_t3_7 :
    yields (given 0x100#20 0x0#16 [(0#4, 1#4, 0xF0F0F0F0#32), (0#4, 2#4, 0xF0F0F0F#32)] []) [0x0412#16]
      (fun t => t.regIn 0#4 1#4 == 0x0#32 && vgl t == (false, false, false)) = true := by decide +kernel

/-- O: T3.8 of `95_test_vectors.md`. -/
theorem test_o_t3_8 :
    yields (given 0x100#20 0x0#16 [(0#4, 1#4, 0x1#32)] [(0x200#20, 0x8000#16)]) [0x5610#16, 0x0200#16]
      (fun t => t.regIn 0#4 1#4 == 0x80000001#32 && vgl t == (false, false,
        true)) = true := by decide +kernel

/-- OH: T3.9 of `95_test_vectors.md`. -/
theorem test_oh_t3_9 :
    yields (given 0x100#20 0x0#16 [(0#4, 1#4, 0x1#32)] [(0x200#20, 0x8000#16)]) [0x4610#16, 0x0200#16]
      (fun t => t.regIn 0#4 1#4 == 0xFFFF8001#32 && vgl t == (false, false,
        true)) = true := by decide +kernel

/-- OI: T3.10 of `95_test_vectors.md`. -/
theorem test_oi_t3_10 :
    yields (given 0x100#20 0x0#16 [(0#4, 1#4, 0x1#32)] []) [0xF610#16, 0x0001#16, 0x0000#16]
      (fun t => t.regIn 0#4 1#4 == 0x10001#32 && vgl t == (false, true, false)) = true := by decide +kernel

/-- OHI: T3.11 of `95_test_vectors.md`. -/
theorem test_ohi_t3_11 :
    yields (given 0x100#20 0x0#16 [(0#4, 1#4, 0x0#32)] []) [0xC610#16, 0x0001#16]
      (fun t => t.regIn 0#4 1#4 == 0x1#32 && vgl t == (false, true, false)) = true := by decide +kernel

/-- OR: T3.12 of `95_test_vectors.md`. -/
theorem test_or_t3_12 :
    yields (given 0x100#20 0x0#16 [(0#4, 1#4, 0x0#32), (0#4, 2#4, 0x0#32)] []) [0x0612#16]
      (fun t => t.regIn 0#4 1#4 == 0x0#32 && vgl t == (false, false, false)) = true := by decide +kernel

/-- X: T3.13 of `95_test_vectors.md`. -/
theorem test_x_t3_13 :
    yields (given 0x100#20 0x0#16 [(0#4, 1#4, 0xAAAAAAAA#32)] [(0x200#20, 0xFFFF#16), (0x202#20,
        0xFFFF#16)]) [0x5710#16, 0x0200#16]
      (fun t => t.regIn 0#4 1#4 == 0x55555555#32 && vgl t == (false, true,
        false)) = true := by decide +kernel

/-- XH: T3.14 of `95_test_vectors.md`. -/
theorem test_xh_t3_14 :
    yields (given 0x100#20 0x0#16 [(0#4, 1#4, 0x12345678#32)] [(0x200#20, 0xFFFF#16)]) [0x4710#16,
        0x0200#16]
      (fun t => t.regIn 0#4 1#4 == 0xEDCBA987#32 && vgl t == (false, false,
        true)) = true := by decide +kernel

/-- XI: T3.15 of `95_test_vectors.md`. -/
theorem test_xi_t3_15 :
    yields (given 0x100#20 0x0#16 [(0#4, 1#4, 0x80000000#32)] []) [0xF710#16, 0x8000#16, 0x0000#16]
      (fun t => t.regIn 0#4 1#4 == 0x0#32 && vgl t == (false, false, false)) = true := by decide +kernel

/-- XHI: T3.16 of `95_test_vectors.md`. -/
theorem test_xhi_t3_16 :
    yields (given 0x100#20 0x0#16 [(0#4, 1#4, 0xFFFF#32)] []) [0xC710#16, 0xFFFF#16]
      (fun t => t.regIn 0#4 1#4 == 0xFFFF0000#32 && vgl t == (false, false,
        true)) = true := by decide +kernel

/-- XR: T3.17 of `95_test_vectors.md`. -/
theorem test_xr_t3_17 :
    yields (given 0x100#20 0x0#16 [(0#4, 1#4, 0xDEADBEEF#32)] []) [0x0711#16]
      (fun t => t.regIn 0#4 1#4 == 0x0#32 && vgl t == (false, false, false)) = true := by decide +kernel

/-- TI: T3.18 of `95_test_vectors.md`. -/
theorem test_ti_t3_18 :
    yields (given 0x100#20 0x0#16 [(0#4, 1#4, 0x80000001#32)] []) [0xF310#16, 0x8000#16, 0x0000#16]
      (fun t => t.regIn 0#4 1#4 == 0x80000001#32 && vgl t == (false, false,
        true)) = true := by decide +kernel

/-- TI: T3.19 of `95_test_vectors.md`. -/
theorem test_ti_t3_19 :
    yields (given 0x100#20 0x0#16 [(0#4, 1#4, 0x80000001#32)] []) [0xF310#16, 0x0000#16, 0x0002#16]
      (fun t => t.regIn 0#4 1#4 == 0x80000001#32 && vgl t == (false, false,
        false)) = true := by decide +kernel

/-- THI: T3.20 of `95_test_vectors.md`. -/
theorem test_thi_t3_20 :
    yields (given 0x100#20 0x0#16 [(0#4, 1#4, 0x80000000#32)] []) [0xC310#16, 0x8000#16]
      (fun t => t.regIn 0#4 1#4 == 0x80000000#32 && vgl t == (false, false,
        true)) = true := by decide +kernel

/-- THI: T3.21 of `95_test_vectors.md`. -/
theorem test_thi_t3_21 :
    yields (given 0x100#20 0x0#16 [(0#4, 1#4, 0x1#32)] []) [0xC310#16, 0x0001#16]
      (fun t => t.regIn 0#4 1#4 == 0x1#32 && vgl t == (false, true, false)) = true := by decide +kernel

/-- SLL: T3.22 of `95_test_vectors.md`. -/
theorem test_sll_t3_22 :
    yields (given 0x100#20 0x0#16 [(0#4, 1#4, 0x80000001#32)] []) [0xED10#16, 0x0001#16]
      (fun t => t.regIn 0#4 1#4 == 0x2#32 && t.psw.toBits &&& 15#16 == 10#16) = true := by decide +kernel

/-- SLL: T3.27 of `95_test_vectors.md`. -/
theorem test_sll_t3_27 :
    yields (given 0x100#20 0x0#16 [(0#4, 1#4, 0x3#32)] []) [0xED11#16, 0x007F#16]
      (fun t => t.regIn 0#4 1#4 == 0xC#32 && t.psw.toBits &&& 15#16 == 2#16) = true := by decide +kernel

/-- SLLS: T3.28 of `95_test_vectors.md`. -/
theorem test_slls_t3_28 :
    yields (given 0x100#20 0x0#16 [(0#4, 2#4, 0x1#32)] []) [0x1124#16]
      (fun t => t.regIn 0#4 2#4 == 0x10#32 && t.psw.toBits &&& 15#16 == 2#16) = true := by decide +kernel

/-- SLLS: T3.29 of `95_test_vectors.md`. -/
theorem test_slls_t3_29 :
    yields (given 0x100#20 0x0#16 [(0#4, 2#4, 0x30001#32)] []) [0x112F#16]
      (fun t => t.regIn 0#4 2#4 == 0x80008000#32 &&
        t.psw.toBits &&& 15#16 == 9#16) = true := by decide +kernel

/-- SRL: T3.30 of `95_test_vectors.md`. -/
theorem test_srl_t3_30 :
    yields (given 0x100#20 0x0#16 [(0#4, 1#4, 0x80000001#32)] []) [0xEC10#16, 0x0001#16]
      (fun t => t.regIn 0#4 1#4 == 0x40000000#32 &&
        t.psw.toBits &&& 15#16 == 10#16) = true := by decide +kernel

/-- SRL: T3.31 of `95_test_vectors.md`. -/
theorem test_srl_t3_31 :
    yields (given 0x100#20 0x0#16 [(0#4, 1#4, 0x80000000#32)] []) [0xEC10#16, 0x0020#16]
      (fun t => t.regIn 0#4 1#4 == 0x0#32 && t.psw.toBits &&& 15#16 == 8#16) = true := by decide +kernel

/-- SRLS: T3.32 of `95_test_vectors.md`. -/
theorem test_srls_t3_32 :
    yields (given 0x100#20 0x0#16 [(0#4, 3#4, 0xF0#32)] []) [0x1034#16]
      (fun t => t.regIn 0#4 3#4 == 0xF#32 && t.psw.toBits &&& 15#16 == 2#16) = true := by decide +kernel

/-- SRLS: T3.33 of `95_test_vectors.md`. -/
theorem test_srls_t3_33 :
    yields (given 0x100#20 0x0#16 [(0#4, 3#4, 0x80000000#32)] []) [0x1030#16]
      (fun t => t.regIn 0#4 3#4 == 0x80000000#32 && vgl t == (false, false,
        true)) = true := by decide +kernel

/-- SLHL: T3.34 of `95_test_vectors.md`. -/
theorem test_slhl_t3_34 :
    yields (given 0x100#20 0x0#16 [(0#4, 1#4, 0xAAAA8001#32)] []) [0xCD10#16, 0x0001#16]
      (fun t => t.regIn 0#4 1#4 == 0xAAAA0002#32 &&
        t.psw.toBits &&& 15#16 == 10#16) = true := by decide +kernel

/-- SLHL: T3.36 of `95_test_vectors.md`. -/
theorem test_slhl_t3_36 :
    yields (given 0x100#20 0x0#16 [(0#4, 1#4, 0x1234FFFF#32)] []) [0xCD10#16, 0x0011#16]
      (fun t => t.regIn 0#4 1#4 == 0x12340000#32 &&
        t.psw.toBits &&& 15#16 == 0#16) = true := by decide +kernel

/-- SLHLS: T3.37 of `95_test_vectors.md`. -/
theorem test_slhls_t3_37 :
    yields (given 0x100#20 0x0#16 [(0#4, 1#4, 0xFF#32)] []) [0x9118#16]
      (fun t => t.regIn 0#4 1#4 == 0xFF00#32 && t.psw.toBits &&& 15#16 == 1#16) = true := by decide +kernel

/-- SRHL: T3.38 of `95_test_vectors.md`. -/
theorem test_srhl_t3_38 :
    yields (given 0x100#20 0x0#16 [(0#4, 1#4, 0xFFFF8001#32)] []) [0xCC10#16, 0x0001#16]
      (fun t => t.regIn 0#4 1#4 == 0xFFFF4000#32 &&
        t.psw.toBits &&& 15#16 == 10#16) = true := by decide +kernel

/-- SRHL: T3.39 of `95_test_vectors.md`. -/
theorem test_srhl_t3_39 :
    yields ({ given 0x100#20 0x0#16 [(0#4, 1#4,
        0xFFFF8001#32)] [] with params := { paramsAtReset with halfShift := .width32 } }) [0xCC10#16,
        0x0001#16]
      (fun t => t.regIn 0#4 1#4 == 0xFFFF4000#32 &&
        t.psw.toBits &&& 15#16 == 9#16) = true := by decide +kernel

/-- SRHLS: T3.40 of `95_test_vectors.md`. -/
theorem test_srhls_t3_40 :
    yields (given 0x100#20 0x0#16 [(0#4, 1#4, 0x1FFF8#32)] []) [0x9014#16]
      (fun t => t.regIn 0#4 1#4 == 0x10FFF#32 &&
        t.psw.toBits &&& 15#16 == 10#16) = true := by decide +kernel

/-- RLL: T3.41 of `95_test_vectors.md`. -/
theorem test_rll_t3_41 :
    yields (given 0x100#20 0x0#16 [(0#4, 1#4, 0x80000001#32)] []) [0xEB10#16, 0x0004#16]
      (fun t => t.regIn 0#4 1#4 == 0x18#32 && vgl t == (false, true, false)) = true := by decide +kernel

/-- RLL: T3.42 of `95_test_vectors.md`. -/
theorem test_rll_t3_42 :
    yields (given 0x100#20 0x0#16 [(0#4, 1#4, 0x12345678#32)] []) [0xEB10#16, 0x0020#16]
      (fun t => t.regIn 0#4 1#4 == 0x12345678#32 && vgl t == (false, true,
        false)) = true := by decide +kernel

/-- RRL: T3.43 of `95_test_vectors.md`. -/
theorem test_rrl_t3_43 :
    yields (given 0x100#20 0x0#16 [(0#4, 1#4, 0x1#32)] []) [0xEA10#16, 0x0001#16]
      (fun t => t.regIn 0#4 1#4 == 0x80000000#32 && vgl t == (false, false,
        true)) = true := by decide +kernel

/-- RRL: T3.44 of `95_test_vectors.md`. -/
theorem test_rrl_t3_44 :
    yields (given 0x100#20 0x0#16 [(0#4, 1#4, 0x12345678#32)] []) [0xEA10#16, 0x0008#16]
      (fun t => t.regIn 0#4 1#4 == 0x78123456#32 && vgl t == (false, true,
        false)) = true := by decide +kernel

/-- TS: T3.45 of `95_test_vectors.md`. -/
theorem test_ts_t3_45 :
    yields (given 0x100#20 0x0#16 [] []) [0xE000#16, 0x0800#16]
      (fun t => t.mem.half 0x800#20 == 0xFFFF#16 && vgl t == (false, false,
        false)) = true := by decide +kernel

/-- TS: T3.47 of `95_test_vectors.md`. -/
theorem test_ts_t3_47 :
    yields (given 0x100#20 0x0#16 [] [(0x800#20, 0x0001#16)]) [0xE000#16, 0x0800#16]
      (fun t => t.mem.half 0x800#20 == 0xFFFF#16 && vgl t == (false, true,
        false)) = true := by decide +kernel

/-- TBT: T3.48 of `95_test_vectors.md`. -/
theorem test_tbt_t3_48 :
    yields (given 0x100#20 0x0#16 [(0#4, 1#4, 0x1#32)] [(0x900#20, 0x4000#16)]) [0x7410#16, 0x0900#16]
      (fun t => t.mem.half 0x900#20 == 0x4000#16 && vgl t == (false, true,
        false)) = true := by decide +kernel

/-- TBT: T3.55 of `95_test_vectors.md`. -/
theorem test_tbt_t3_55 :
    yields (given 0x100#20 0x0#16 [(0#4, 1#4, 0x10003#32)] [(0x2900#20, 0x1000#16)]) [0x7410#16, 0x0900#16]
      (fun t => vgl t == (false, true, false)) = true := by decide +kernel

/-- SBT: T3.50 of `95_test_vectors.md`. -/
theorem test_sbt_t3_50 :
    yields (given 0x100#20 0x0#16 [(0#4, 1#4, 0x11#32)] []) [0x7510#16, 0x0900#16]
      (fun t => t.regIn 0#4 1#4 == 0x11#32 && t.mem.half 0x900#20 == 0x0000#16 &&
        t.mem.half 0x902#20 == 0x4000#16 && vgl t == (false, false, false)) = true := by decide +kernel

/-- SBT: T3.51 of `95_test_vectors.md`. -/
theorem test_sbt_t3_51 :
    yields (given 0x100#20 0x0#16 [(0#4, 1#4, 0x0#32)] [(0x900#20, 0x8000#16)]) [0x7510#16, 0x0900#16]
      (fun t => t.mem.half 0x900#20 == 0x8000#16 && vgl t == (false, true,
        false)) = true := by decide +kernel

/-- RBT: T3.52 of `95_test_vectors.md`. -/
theorem test_rbt_t3_52 :
    yields (given 0x100#20 0x0#16 [(0#4, 1#4, 0xF#32)] [(0x900#20, 0xFFFF#16)]) [0x7610#16, 0x0900#16]
      (fun t => t.mem.half 0x900#20 == 0xFFFE#16 && vgl t == (false, true,
        false)) = true := by decide +kernel

/-- CBT: T3.53 of `95_test_vectors.md`. -/
theorem test_cbt_t3_53 :
    yields (given 0x100#20 0x0#16 [(0#4, 1#4, 0xF#32)] [(0x900#20, 0xFFFF#16)]) [0x7710#16, 0x0900#16]
      (fun t => t.mem.half 0x900#20 == 0xFFFE#16 && vgl t == (false, true,
        false)) = true := by decide +kernel

/-- CBT: T3.54 of `95_test_vectors.md`. -/
theorem test_cbt_t3_54 :
    yields (given 0x100#20 0x0#16 [(0#4, 1#4, 0x0#32)] []) [0x7710#16, 0x0900#16]
      (fun t => t.mem.half 0x900#20 == 0x8000#16 && vgl t == (false, false,
        false)) = true := by decide +kernel

/-- JT: T4.1 of `95_test_vectors.md`. -/
theorem test_jt_t4_1 :
    yields (given 0x400#20 0x2#16 [] []) [0x4220#16, 0x0100#16]
      (fun t => t.pc == 0x100#20 && t.psw.toBits &&& 15#16 == 2#16) = true := by decide +kernel

/-- JT: T4.35 of `95_test_vectors.md`. -/
theorem test_jt_t4_35 :
    yields (given 0x400#20 0x1102#16 [] [(0x1A#20, 0x0700#16)]) [0x4210#16, 0x0100#16]
      (fun t => t.mem.half 0x14#20 == 0x0#16 && t.mem.half 0x16#20 == 0x0#16 &&
        t.psw.toBits == 0x1102#16 && t.pc == 0x404#20) = true := by decide +kernel

/-- JF: T4.5 of `95_test_vectors.md`. -/
theorem test_jf_t4_5 :
    yields (given 0x400#20 0xF#16 [] []) [0x4300#16, 0x0100#16]
      (fun t => t.pc == 0x100#20) = true := by decide +kernel

/-- JF: T4.34 of `95_test_vectors.md`. -/
theorem test_jf_t4_34 :
    yields (given 0x400#20 0x1102#16 [] [(0x1A#20, 0x0700#16)]) [0x4300#16, 0x0100#16]
      (fun t => t.mem.half 0x10#20 == 0x0#16 && t.mem.half 0x12#20 == 0x1102#16 &&
        t.mem.half 0x14#20 == 0x0#16 && t.mem.half 0x16#20 == 0x100#16 && t.psw.toBits == 0x0102#16 &&
        t.pc == 0x700#20) = true := by decide +kernel

/-- JTR: T4.10 of `95_test_vectors.md`. -/
theorem test_jtr_t4_10 :
    yields (given 0x400#20 0xF#16 [] []) [0x0200#16]
      (fun t => t.pc == 0x402#20) = true := by decide +kernel

/-- JTR: T4.11 of `95_test_vectors.md`. -/
theorem test_jtr_t4_11 :
    yields (given 0x400#20 0x8#16 [(0#4, 3#4, 0x500#32)] []) [0x0283#16]
      (fun t => t.pc == 0x500#20) = true := by decide +kernel

/-- JFR: T4.12 of `95_test_vectors.md`. -/
theorem test_jfr_t4_12 :
    yields (given 0x400#20 0xF#16 [(0#4, 15#4, 0xFFF00200#32)] []) [0x030F#16]
      (fun t => t.pc == 0x200#20) = true := by decide +kernel

/-- JTBS: T4.14 of `95_test_vectors.md`. -/
theorem test_jtbs_t4_14 :
    yields (given 0x210#20 0x1#16 [] []) [0x2013#16]
      (fun t => t.pc == 0x20A#20) = true := by decide +kernel

/-- JTBS: T4.15 of `95_test_vectors.md`. -/
theorem test_jtbs_t4_15 :
    yields (given 0x210#20 0x2#16 [] []) [0x2013#16]
      (fun t => t.pc == 0x212#20) = true := by decide +kernel

/-- JTFS: T4.16 of `95_test_vectors.md`. -/
theorem test_jtfs_t4_16 :
    yields (given 0x210#20 0x2#16 [] []) [0x2125#16]
      (fun t => t.pc == 0x21A#20) = true := by decide +kernel

/-- JFBS: T4.17 of `95_test_vectors.md`. -/
theorem test_jfbs_t4_17 :
    yields (given 0x104#20 0x0#16 [] []) [0x2202#16]
      (fun t => t.pc == 0x100#20) = true := by decide +kernel

/-- JFBS: T4.19 of `95_test_vectors.md`. -/
theorem test_jfbs_t4_19 :
    yields (given 0x10#20 0x0#16 [] []) [0x228F#16]
      (fun t => t.pc == 0xFFFF2#20) = true := by decide +kernel

/-- JFFS: T4.20 of `95_test_vectors.md`. -/
theorem test_jffs_t4_20 :
    yields (given 0x100#20 0x0#16 [] []) [0x2302#16]
      (fun t => t.pc == 0x104#20) = true := by decide +kernel

/-- JFFS: T4.22 of `95_test_vectors.md`. -/
theorem test_jffs_t4_22 :
    yields (given 0x100#20 0x8#16 [] []) [0x2381#16]
      (fun t => t.pc == 0x102#20) = true := by decide +kernel

/-- JAL: T4.23 of `95_test_vectors.md`. -/
theorem test_jal_t4_23 :
    yields (given 0x200#20 0x0#16 [(0#4, 15#4, 0xFFFFFFFF#32)] []) [0x41F0#16, 0x0400#16]
      (fun t => t.regIn 0#4 15#4 == 0x204#32 && t.pc == 0x400#20) = true := by decide +kernel

/-- JAL: T4.36 of `95_test_vectors.md`. -/
theorem test_jal_t4_36 :
    yields (given 0x400#20 0x1000#16 [] [(0x1A#20, 0x0700#16)]) [0x41F0#16, 0x0100#16]
      (fun t => t.regIn 0#4 15#4 == 0x404#32 && t.mem.half 0x10#20 == 0x0#16 &&
        t.mem.half 0x12#20 == 0x1000#16 && t.mem.half 0x14#20 == 0x0#16 &&
        t.mem.half 0x16#20 == 0x100#16 && t.psw.toBits == 0x0000#16 &&
        t.pc == 0x700#20) = true := by decide +kernel

/-- JALR: T4.25 of `95_test_vectors.md`. -/
theorem test_jalr_t4_25 :
    yields (given 0x300#20 0x0#16 [(0#4, 3#4, 0x1000#32)] []) [0x01F3#16]
      (fun t => t.regIn 0#4 15#4 == 0x302#32 && t.pc == 0x1000#20) = true := by decide +kernel

/-- JALR: T4.26 of `95_test_vectors.md`. -/
theorem test_jalr_t4_26 :
    yields (given 0x300#20 0x0#16 [(0#4, 3#4, 0x1000#32)] []) [0x0133#16]
      (fun t => t.regIn 0#4 3#4 == 0x302#32 && t.pc == 0x1000#20) = true := by decide +kernel

/-- JFFO: T4.27 of `95_test_vectors.md`. -/
theorem test_jffo_t4_27 :
    yields (given 0x100#20 0x0#16 [(0#4, 4#4, 0x10000#32)] []) [0x3143#16]
      (fun t => t.regIn 0#4 5#4 == 0xF#32 && t.pc == 0x106#20) = true := by decide +kernel

/-- JFFO: T4.30 of `95_test_vectors.md`. -/
theorem test_jffo_t4_30 :
    yields (given 0x100#20 0x0#16 [(0#4, 15#4, 0x1#32)] []) [0x31F1#16]
      (fun t => t.regIn 0#4 0#4 == 0x1F#32 && t.pc == 0x102#20) = true := by decide +kernel

/-- JFFOH: T4.31 of `95_test_vectors.md`. -/
theorem test_jffoh_t4_31 :
    yields (given 0x100#20 0x0#16 [(0#4, 4#4, 0xFFFF0001#32)] []) [0x3342#16]
      (fun t => t.regIn 0#4 5#4 == 0xF#32 && t.pc == 0x104#20) = true := by decide +kernel

/-- JFFOH: T4.33 of `95_test_vectors.md`. -/
theorem test_jffoh_t4_33 :
    yields (given 0x100#20 0x0#16 [(0#4, 4#4, 0x8000#32), (0#4, 5#4, 0x77#32)] []) [0x3342#16]
      (fun t => t.regIn 0#4 5#4 == 0x0#32 && t.pc == 0x104#20) = true := by decide +kernel

/-- A: T5.1 of `95_test_vectors.md`. -/
theorem test_a_t5_1 :
    yields (given 0x100#20 0x0#16 [(0#4, 1#4, 0xFFFFFFFF#32)] [(0x202#20, 0x0001#16)]) [0x5A10#16,
        0x0200#16]
      (fun t => t.regIn 0#4 1#4 == 0x0#32 && t.psw.toBits &&& 15#16 == 8#16) = true := by decide +kernel

/-- A: T5.3 of `95_test_vectors.md`. -/
theorem test_a_t5_3 :
    yields (given 0x100#20 0x0#16 [(0#4, 1#4, 0x80000000#32)] [(0x200#20, 0x8000#16)]) [0x5A10#16,
        0x0200#16]
      (fun t => t.regIn 0#4 1#4 == 0x0#32 && t.psw.toBits &&& 15#16 == 8#16) = true := by decide +kernel

/-- AH: T5.4 of `95_test_vectors.md`. -/
theorem test_ah_t5_4 :
    yields (given 0x100#20 0x0#16 [(0#4, 1#4, 0x5#32)] [(0x200#20, 0xFFFF#16)]) [0x4A10#16, 0x0200#16]
      (fun t => t.regIn 0#4 1#4 == 0x4#32 && t.psw.toBits &&& 15#16 == 10#16) = true := by decide +kernel

/-- AI: T5.5 of `95_test_vectors.md`. -/
theorem test_ai_t5_5 :
    yields (given 0x100#20 0x0#16 [(0#4, 1#4, 0x1#32), (0#4, 2#4, 0xFFFFFFFE#32)] []) [0xFA12#16,
        0x0000#16, 0x0001#16]
      (fun t => t.regIn 0#4 1#4 == 0x0#32 && t.psw.toBits &&& 15#16 == 8#16) = true := by decide +kernel

/-- AHI: T5.6 of `95_test_vectors.md`. -/
theorem test_ahi_t5_6 :
    yields (given 0x100#20 0x0#16 [(0#4, 1#4, 0x10#32)] []) [0xCA10#16, 0xFFFF#16]
      (fun t => t.regIn 0#4 1#4 == 0xF#32 && t.psw.toBits &&& 15#16 == 10#16) = true := by decide +kernel

/-- AR: T5.7 of `95_test_vectors.md`. -/
theorem test_ar_t5_7 :
    yields (given 0x100#20 0x0#16 [(0#4, 2#4, 0xFFFFFFFF#32), (0#4, 3#4, 0xFFFFFFFF#32)] []) [0x0A23#16]
      (fun t => t.regIn 0#4 2#4 == 0xFFFFFFFE#32 &&
        t.psw.toBits &&& 15#16 == 9#16) = true := by decide +kernel

/-- AR: T5.8 of `95_test_vectors.md`. -/
theorem test_ar_t5_8 :
    yields (given 0x100#20 0x0#16 [(0#4, 1#4, 0x80000000#32)] []) [0x0A11#16]
      (fun t => t.regIn 0#4 1#4 == 0x0#32 && t.psw.toBits &&& 15#16 == 8#16) = true := by decide +kernel

/-- AIS: T5.9 of `95_test_vectors.md`. -/
theorem test_ais_t5_9 :
    yields (given 0x100#20 0x0#16 [(0#4, 3#4, 0xFFFFFFFF#32)] []) [0x2631#16]
      (fun t => t.regIn 0#4 3#4 == 0x0#32 && t.psw.toBits &&& 15#16 == 8#16) = true := by decide +kernel

/-- AIS: T5.10 of `95_test_vectors.md`. -/
theorem test_ais_t5_10 :
    yields (given 0x100#20 0x0#16 [(0#4, 3#4, 0x0#32)] []) [0x263F#16]
      (fun t => t.regIn 0#4 3#4 == 0xF#32 && t.psw.toBits &&& 15#16 == 2#16) = true := by decide +kernel

/-- AM: T5.11 of `95_test_vectors.md`. -/
theorem test_am_t5_11 :
    yields (given 0x100#20 0x0#16 [(0#4, 1#4, 0x1#32)] [(0x200#20, 0x7FFF#16), (0x202#20,
        0xFFFF#16)]) [0x5110#16, 0x0200#16]
      (fun t => t.regIn 0#4 1#4 == 0x1#32 && t.mem.half 0x200#20 == 0x8000#16 &&
        t.mem.half 0x202#20 == 0x0#16 && t.psw.toBits &&& 15#16 == 1#16) = true := by decide +kernel

/-- AHM: T5.12 of `95_test_vectors.md`. -/
theorem test_ahm_t5_12 :
    yields (given 0x100#20 0x0#16 [(0#4, 1#4, 0x1#32)] [(0x200#20, 0x7FFF#16)]) [0x6110#16, 0x0200#16]
      (fun t => t.regIn 0#4 1#4 == 0x1#32 && t.mem.half 0x200#20 == 0x8000#16 &&
        t.psw.toBits &&& 15#16 == 2#16) = true := by decide +kernel

/-- AHM: T5.14 of `95_test_vectors.md`. -/
theorem test_ahm_t5_14 :
    yields (given 0x100#20 0x0#16 [(0#4, 1#4, 0xFFFF#32)] [(0x200#20, 0x0001#16)]) [0x6110#16, 0x0200#16]
      (fun t => t.regIn 0#4 1#4 == 0xFFFF#32 && t.mem.half 0x200#20 == 0x0000#16 &&
        t.psw.toBits &&& 15#16 == 2#16) = true := by decide +kernel

/-- S: T5.15 of `95_test_vectors.md`. -/
theorem test_s_t5_15 :
    yields (given 0x100#20 0x0#16 [(0#4, 1#4, 0x5#32)] [(0x202#20, 0x0007#16)]) [0x5B10#16, 0x0200#16]
      (fun t => t.regIn 0#4 1#4 == 0xFFFFFFFE#32 &&
        t.psw.toBits &&& 15#16 == 1#16) = true := by decide +kernel

/-- S: T5.17 of `95_test_vectors.md`. -/
theorem test_s_t5_17 :
    yields (given 0x100#20 0x0#16 [(0#4, 1#4, 0x0#32)] []) [0x5B10#16, 0x0200#16]
      (fun t => t.regIn 0#4 1#4 == 0x0#32 && t.psw.toBits &&& 15#16 == 8#16) = true := by decide +kernel

/-- SH: T5.18 of `95_test_vectors.md`. -/
theorem test_sh_t5_18 :
    yields (given 0x100#20 0x0#16 [(0#4, 1#4, 0x0#32)] [(0x200#20, 0xFFFF#16)]) [0x4B10#16, 0x0200#16]
      (fun t => t.regIn 0#4 1#4 == 0x1#32 && t.psw.toBits &&& 15#16 == 2#16) = true := by decide +kernel

/-- SI: T5.19 of `95_test_vectors.md`. -/
theorem test_si_t5_19 :
    yields (given 0x100#20 0x0#16 [(0#4, 1#4, 0x1#32)] []) [0xFB10#16, 0x0000#16, 0x0001#16]
      (fun t => t.regIn 0#4 1#4 == 0x0#32 && t.psw.toBits &&& 15#16 == 8#16) = true := by decide +kernel

/-- SHI: T5.20 of `95_test_vectors.md`. -/
theorem test_shi_t5_20 :
    yields (given 0x100#20 0x0#16 [(0#4, 1#4, 0x0#32)] []) [0xCB10#16, 0x0001#16]
      (fun t => t.regIn 0#4 1#4 == 0xFFFFFFFF#32 &&
        t.psw.toBits &&& 15#16 == 1#16) = true := by decide +kernel

/-- SR: T5.21 of `95_test_vectors.md`. -/
theorem test_sr_t5_21 :
    yields (given 0x100#20 0x0#16 [(0#4, 1#4, 0x12345678#32)] []) [0x0B11#16]
      (fun t => t.regIn 0#4 1#4 == 0x0#32 && t.psw.toBits &&& 15#16 == 8#16) = true := by decide +kernel

/-- SIS: T5.22 of `95_test_vectors.md`. -/
theorem test_sis_t5_22 :
    yields (given 0x100#20 0x0#16 [(0#4, 4#4, 0x1#32)] []) [0x2741#16]
      (fun t => t.regIn 0#4 4#4 == 0x0#32 && t.psw.toBits &&& 15#16 == 8#16) = true := by decide +kernel

/-- SIS: T5.23 of `95_test_vectors.md`. -/
theorem test_sis_t5_23 :
    yields (given 0x100#20 0x0#16 [(0#4, 4#4, 0x0#32)] []) [0x2741#16]
      (fun t => t.regIn 0#4 4#4 == 0xFFFFFFFF#32 &&
        t.psw.toBits &&& 15#16 == 1#16) = true := by decide +kernel

/-- CL: T5.24 of `95_test_vectors.md`. -/
theorem test_cl_t5_24 :
    yields (given 0x100#20 0x0#16 [(0#4, 1#4, 0xFFFFFFFF#32)] [(0x200#20, 0x7FFF#16), (0x202#20,
        0xFFFF#16)]) [0x5510#16, 0x0200#16]
      (fun t => t.regIn 0#4 1#4 == 0xFFFFFFFF#32 &&
        t.psw.toBits &&& 15#16 == 9#16) = true := by decide +kernel

/-- CL: T5.25 of `95_test_vectors.md`. -/
theorem test_cl_t5_25 :
    yields (given 0x100#20 0x0#16 [(0#4, 1#4, 0x12345678#32)] [(0x200#20, 0x1234#16), (0x202#20,
        0x5678#16)]) [0x5510#16, 0x0200#16]
      (fun t => t.regIn 0#4 1#4 == 0x12345678#32 &&
        t.psw.toBits &&& 15#16 == 8#16) = true := by decide +kernel

/-- CLH: T5.26 of `95_test_vectors.md`. -/
theorem test_clh_t5_26 :
    yields (given 0x100#20 0x0#16 [(0#4, 1#4, 0xFFFF#32)] [(0x200#20, 0xFFFF#16)]) [0x4510#16, 0x0200#16]
      (fun t => t.psw.toBits &&& 15#16 == 2#16) = true := by decide +kernel

/-- CLI: T5.27 of `95_test_vectors.md`. -/
theorem test_cli_t5_27 :
    yields (given 0x100#20 0x0#16 [(0#4, 1#4, 0xFFFFFFFF#32)] []) [0xF510#16, 0xFFFF#16, 0xFFFF#16]
      (fun t => t.psw.toBits &&& 15#16 == 8#16) = true := by decide +kernel

/-- CLHI: T5.28 of `95_test_vectors.md`. -/
theorem test_clhi_t5_28 :
    yields (given 0x100#20 0x0#16 [(0#4, 1#4, 0x3#32)] []) [0xC510#16, 0x0005#16]
      (fun t => t.psw.toBits &&& 15#16 == 1#16) = true := by decide +kernel

/-- CLR: T5.29 of `95_test_vectors.md`. -/
theorem test_clr_t5_29 :
    yields (given 0x100#20 0x0#16 [(0#4, 1#4, 0x1#32), (0#4, 2#4, 0x80000000#32)] []) [0x0512#16]
      (fun t => t.psw.toBits &&& 15#16 == 1#16) = true := by decide +kernel

/-- CLB: T5.30 of `95_test_vectors.md`. -/
theorem test_clb_t5_30 :
    yields (given 0x100#20 0x0#16 [(0#4, 1#4, 0x12345680#32)] [(0x200#20, 0x7F00#16)]) [0xD410#16,
        0x0200#16]
      (fun t => vgl t == (false, true, false)) = true := by decide +kernel

/-- CLB: T5.32 of `95_test_vectors.md`. -/
theorem test_clb_t5_32 :
    yields (given 0x100#20 0x0#16 [(0#4, 1#4, 0x41#32)] [(0x200#20, 0x4100#16)]) [0xD410#16, 0x0200#16]
      (fun t => vgl t == (false, false, false)) = true := by decide +kernel

/-- C: T5.33 of `95_test_vectors.md`. -/
theorem test_c_t5_33 :
    yields (given 0x100#20 0x0#16 [(0#4, 1#4, 0x1#32)] [(0x200#20, 0x8000#16)]) [0x5910#16, 0x0200#16]
      (fun t => vgl t == (false, true, false)) = true := by decide +kernel

/-- CH: T5.34 of `95_test_vectors.md`. -/
theorem test_ch_t5_34 :
    yields (given 0x100#20 0x0#16 [(0#4, 1#4, 0x0#32)] [(0x200#20, 0xFFFF#16)]) [0x4910#16, 0x0200#16]
      (fun t => vgl t == (false, true, false)) = true := by decide +kernel

/-- CI: T5.35 of `95_test_vectors.md`. -/
theorem test_ci_t5_35 :
    yields (given 0x100#20 0x0#16 [(0#4, 1#4, 0x7FFFFFFF#32)] []) [0xF910#16, 0x8000#16, 0x0000#16]
      (fun t => vgl t == (false, true, false)) = true := by decide +kernel

/-- CHI: T5.36 of `95_test_vectors.md`. -/
theorem test_chi_t5_36 :
    yields (given 0x100#20 0x0#16 [(0#4, 1#4, 0xFFFFFFFF#32)] []) [0xC910#16, 0x0000#16]
      (fun t => vgl t == (false, false, true)) = true := by decide +kernel

/-- CR: T5.37 of `95_test_vectors.md`. -/
theorem test_cr_t5_37 :
    yields (given 0x100#20 0x0#16 [(0#4, 1#4, 0x80000000#32), (0#4, 2#4, 0x80000000#32)] []) [0x0912#16]
      (fun t => vgl t == (false, false, false)) = true := by decide +kernel

/-- M: T5.38 of `95_test_vectors.md`. -/
theorem test_m_t5_38 :
    yields (given 0x100#20 0xC#16 [(0#4, 2#4, 0x55#32), (0#4, 3#4, 0xFFFFFFFF#32)] [(0x200#20,
        0xFFFF#16), (0x202#20, 0xFFFF#16)]) [0x5C20#16, 0x0200#16]
      (fun t => t.regIn 0#4 2#4 == 0xFFFFFFFE#32 && t.regIn 0#4 3#4 == 0x1#32 &&
        t.psw.toBits &&& 15#16 == 12#16) = true := by decide +kernel

/-- MR: T5.39 of `95_test_vectors.md`. -/
theorem test_mr_t5_39 :
    yields (given 0x100#20 0x0#16 [(0#4, 0#4, 0x10000#32), (0#4, 5#4, 0x10000#32), (0#4, 15#4,
        0x99#32)] []) [0x1CF5#16]
      (fun t => t.regIn 0#4 15#4 == 0x1#32 && t.regIn 0#4 0#4 == 0x0#32) = true := by decide +kernel

/-- MR: T5.40 of `95_test_vectors.md`. -/
theorem test_mr_t5_40 :
    yields (given 0x100#20 0x0#16 [(0#4, 3#4, 0x10000#32)] []) [0x1C23#16]
      (fun t => t.regIn 0#4 2#4 == 0x1#32 && t.regIn 0#4 3#4 == 0x0#32) = true := by decide +kernel

/-- MH: T5.41 of `95_test_vectors.md`. -/
theorem test_mh_t5_41 :
    yields (given 0x100#20 0x0#16 [(0#4, 1#4, 0x1234FFFF#32)] [(0x200#20, 0xFFFF#16)]) [0x4C10#16,
        0x0200#16]
      (fun t => t.regIn 0#4 1#4 == 0xFFFE0001#32) = true := by decide +kernel

/-- MHR: T5.42 of `95_test_vectors.md`. -/
theorem test_mhr_t5_42 :
    yields (given 0x100#20 0x0#16 [(0#4, 1#4, 0x3#32), (0#4, 2#4, 0x50004#32)] []) [0x0C12#16]
      (fun t => t.regIn 0#4 1#4 == 0xC#32) = true := by decide +kernel

/-- D: T5.43 of `95_test_vectors.md`. -/
theorem test_d_t5_43 :
    yields (given 0x100#20 0x0#16 [(0#4, 2#4, 0x1#32), (0#4, 3#4, 0x0#32)] [(0x202#20,
        0x0010#16)]) [0x5D20#16, 0x0200#16]
      (fun t => t.regIn 0#4 2#4 == 0x0#32 && t.regIn 0#4 3#4 == 0x10000000#32) = true := by decide +kernel

/-- DR: T5.44 of `95_test_vectors.md`. -/
theorem test_dr_t5_44 :
    yields (given 0x100#20 0x9#16 [(0#4, 4#4, 0x0#32), (0#4, 5#4, 0x64#32), (0#4, 6#4,
        0x7#32)] []) [0x1D46#16]
      (fun t => t.regIn 0#4 4#4 == 0x2#32 && t.regIn 0#4 5#4 == 0xE#32 &&
        t.psw.toBits &&& 15#16 == 9#16) = true := by decide +kernel

/-- DR: T5.47 of `95_test_vectors.md`. -/
theorem test_dr_t5_47 :
    yields (given 0x100#20 0x0#16 [(0#4, 4#4, 0x0#32), (0#4, 5#4, 0x9#32), (0#4, 6#4,
        0x0#32)] []) [0x1D46#16]
      (fun t => t.pc == 0x102#20) = true := by decide +kernel

/-- DH: T5.48 of `95_test_vectors.md`. -/
theorem test_dh_t5_48 :
    yields (given 0x100#20 0x0#16 [(0#4, 1#4, 0x64#32)] [(0x200#20, 0x0007#16)]) [0x4D10#16, 0x0200#16]
      (fun t => t.regIn 0#4 1#4 == 0x2#32 && t.regIn 0#4 2#4 == 0xE#32) = true := by decide +kernel

/-- DHR: T5.49 of `95_test_vectors.md`. -/
theorem test_dhr_t5_49 :
    yields (given 0x100#20 0x0#16 [(0#4, 1#4, 0x80000#32), (0#4, 3#4, 0x10#32)] []) [0x0D13#16]
      (fun t => t.regIn 0#4 1#4 == 0x0#32 && t.regIn 0#4 2#4 == 0xFFFF8000#32) = true := by decide +kernel

/-- DHR: T5.50 of `95_test_vectors.md`. -/
theorem test_dhr_t5_50 :
    yields (given 0x100#20 0x0#16 [(0#4, 15#4, 0xFFFF#32), (0#4, 3#4, 0xFFFF0002#32)] []) [0x0DF3#16]
      (fun t => t.regIn 0#4 15#4 == 0x1#32 && t.regIn 0#4 0#4 == 0x7FFF#32) = true := by decide +kernel

/-- SRA: T5.51 of `95_test_vectors.md`. -/
theorem test_sra_t5_51 :
    yields (given 0x100#20 0x0#16 [(0#4, 1#4, 0x80000003#32)] []) [0xEE10#16, 0x0001#16]
      (fun t => t.regIn 0#4 1#4 == 0xC0000001#32 &&
        t.psw.toBits &&& 15#16 == 9#16) = true := by decide +kernel

/-- SRA: T5.54 of `95_test_vectors.md`. -/
theorem test_sra_t5_54 :
    yields (given 0x100#20 0x0#16 [(0#4, 1#4, 0x0#32)] []) [0xEE10#16, 0x0000#16]
      (fun t => t.regIn 0#4 1#4 == 0x0#32 && vgl t == (false, false, false)) = true := by decide +kernel

/-- LHR: T5.55 of `95_test_vectors.md`. -/
theorem test_lhr_t5_55 :
    yields (given 0x100#20 0x0#16 [(0#4, 2#4, 0x12348000#32)] []) [0x1212#16]
      (fun t => t.regIn 0#4 1#4 == 0xFFFF8000#32 && vgl t == (false, false,
        true)) = true := by decide +kernel

/-- LHR: T5.56 of `95_test_vectors.md`. -/
theorem test_lhr_t5_56 :
    yields (given 0x100#20 0x0#16 [(0#4, 1#4, 0xFFFF0000#32)] []) [0x1211#16]
      (fun t => t.regIn 0#4 1#4 == 0x0#32 && vgl t == (false, false, false)) = true := by decide +kernel

/-- LPSW: T6.1 of `95_test_vectors.md`. -/
theorem test_lpsw_t6_1 :
    yields (given 0x100#20 0x0#16 [] [(0x1002#20, 0x4100#16), (0x1006#20, 0x0200#16)]) [0xC200#16,
        0x1000#16]
      (fun t => t.psw.toBits == 0x4100#16 && t.pc == 0x200#20) = true := by decide +kernel

/-- LPSW: T6.4 of `95_test_vectors.md`. -/
theorem test_lpsw_t6_4 :
    yields (given 0x100#20 0x0#16 [] [(0x1002#20, 0xC000#16), (0x1006#20, 0x0200#16)]) [0xC200#16,
        0x1000#16]
      (fun t => t.psw.toBits == 0xC000#16 && t.pc == 0x200#20) = true := by decide +kernel

/-- UPSW: T6.5 of `95_test_vectors.md`. -/
theorem test_upsw_t6_5 :
    yields (given 0x100#20 0x100#16 [] [(0x12#20, 0xFFFF#16), (0x16#20, 0x0300#16)]) [0xD500#16, 0x0010#16]
      (fun t => t.psw.toBits == 0x110F#16 && t.pc == 0x300#20) = true := by decide +kernel

/-- UPSW: T6.6 of `95_test_vectors.md`. -/
theorem test_upsw_t6_6 :
    yields (given 0x100#20 0x51F5#16 [] [(0x16#20, 0x0300#16)]) [0xD500#16, 0x0010#16]
      (fun t => t.psw.toBits == 0x41F0#16 && t.pc == 0x300#20) = true := by decide +kernel

/-- LPSWR: T6.7 of `95_test_vectors.md`. -/
theorem test_lpswr_t6_7 :
    yields (given 0x100#20 0x0#16 [(0#4, 0#4, 0x41F2#32), (0#4, 1#4, 0x12344#32)] []) [0x1810#16]
      (fun t => t.psw.toBits == 0x41F2#16 && t.pc == 0x12344#20) = true := by decide +kernel

/-- LPSWR: T6.9 of `95_test_vectors.md`. -/
theorem test_lpswr_t6_9 :
    yields ({ given 0x100#20 0x100#16 [] [(0x36#20,
        0x0800#16)] with params := { paramsAtReset with illegalSavedPc := .afterFirst } }) [0x1810#16]
      (fun t => t.regIn 0#4 14#4 == 0x100#32 && t.regIn 0#4 15#4 == 0x102#32 &&
        t.psw.toBits == 0x0000#16 && t.pc == 0x800#20) = true := by decide +kernel

/-- EPSR: T6.10 of `95_test_vectors.md`. -/
theorem test_epsr_t6_10 :
    yields (given 0x100#20 0x2#16 [(0#4, 2#4, 0xF0#32)] []) [0x9512#16]
      (fun t => t.regIn 0#4 1#4 == 0x2#32 && t.psw.toBits == 0x00F0#16 &&
        t.pc == 0x102#20) = true := by decide +kernel

/-- EPSR: T6.11 of `95_test_vectors.md`. -/
theorem test_epsr_t6_11 :
    yields (given 0x100#20 0x2035#16 [(3#4, 1#4, 0xFFFFFFFF#32)] []) [0x9511#16]
      (fun t => t.regIn 3#4 1#4 == 0x2035#32 && t.psw.toBits == 0x2035#16 &&
        t.pc == 0x102#20) = true := by decide +kernel

/-- SVC: T6.12 of `95_test_vectors.md`. -/
theorem test_svc_t6_12 :
    yields (given 0x10400#20 0x112#16 [] [(0xA0#20, 0x2000#16)]) [0xE120#16, 0x0123#16]
      (fun t => t.regIn 0#4 13#4 == 0x123#32 && t.regIn 0#4 14#4 == 0x112#32 &&
        t.regIn 0#4 15#4 == 0x10404#32 && t.psw.toBits == 0x0000#16 &&
        t.pc == 0x2000#20) = true := by decide +kernel

/-- SVC: T6.13 of `95_test_vectors.md`. -/
theorem test_svc_t6_13 :
    yields (given 0x400#20 0x100#16 [(0#4, 1#4, 0xFF000001#32)] [(0x9A#20, 0x0020#16), (0xBA#20,
        0x3000#16)]) [0xE1F1#16, 0x00FF#16]
      (fun t => t.regIn 2#4 13#4 == 0x100#32 && t.regIn 2#4 14#4 == 0x100#32 &&
        t.regIn 2#4 15#4 == 0x404#32 && t.regIn 0#4 13#4 == 0x0#32 && t.psw.toBits == 0x0020#16 &&
        t.pc == 0x3000#20) = true := by decide +kernel

/-- CIO: T7.1 of `95_test_vectors.md`. -/
theorem test_cio_t7_1 :
    yields ({ given 0x100#20 0x105#16 [(0#4, 4#4, 0x1234BEEF#32), (0#4, 5#4, 0xFFF0DEAD#32), (0#4, 6#4,
        0xFFFFFFFF#32)] [] with switches := 0x00A5#16 }) [0x9946#16]
      (fun t => t.regIn 0#4 6#4 == 0xA5#32 && t.psw.toBits &&& 15#16 == 5#16 &&
        t.displayLeft == 0x0DEAD#20 && t.displayRight == 0xBEEF#16) = true := by decide +kernel

/-- CIO: T7.2 of `95_test_vectors.md`. -/
theorem test_cio_t7_2 :
    yields ({ given 0x100#20 0x0#16 [(0#4, 15#4, 0x1111#32), (0#4, 0#4,
        0xABCDE#32)] [] with switches := 0xFFFF#16 }) [0x99F0#16]
      (fun t => t.regIn 0#4 0#4 == 0xFFFF#32 && t.displayLeft == 0xABCDE#20 &&
        t.displayRight == 0x1111#16) = true := by decide +kernel

/-- SSR: T7.3 of `95_test_vectors.md`. -/
theorem test_ssr_t7_3 :
    yields ({ given 0x100#20 0x0#16 [(0#4, 1#4, 0x2#32)] [] with busIn := [.data 0x0008#16] }) [0x9D12#16]
      (fun t => t.regIn 0#4 2#4 == 0x8#32 && t.psw.toBits &&& 15#16 == 8#16) = true := by decide +kernel

/-- SSR: T7.5 of `95_test_vectors.md`. -/
theorem test_ssr_t7_5 :
    yields (given 0x100#20 0x0#16 [(0#4, 1#4, 0x77#32)] []) [0x9D12#16]
      (fun t => t.regIn 0#4 2#4 == 0x4#32 && t.psw.toBits &&& 15#16 == 4#16) = true := by decide +kernel

/-- OC: T7.6 of `95_test_vectors.md`. -/
theorem test_oc_t7_6 :
    yields ({ given 0x100#20 0xF#16 [(0#4, 1#4, 0x10#32)] [(0x500#20,
        0x1234#16)] with busIn := [.data 0#16] }) [0xDE10#16, 0x0501#16]
      (fun t => t.psw.toBits &&& 15#16 == 0#16 &&
        t.busOut == [.command 0x0010#16 0x1234#16]) = true := by decide +kernel

/-- OC: T7.7 of `95_test_vectors.md`. -/
theorem test_oc_t7_7 :
    yields ({ given 0x100#20 0x0#16 [(0#4, 1#4, 0x10#32)] [(0x500#20,
        0x1234#16)] with busIn := [.data 0#16] }) [0xDE10#16, 0x0500#16]
      (fun t => t.psw.toBits &&& 15#16 == 0#16 &&
        t.busOut == [.command 0x0010#16 0x3412#16]) = true := by decide +kernel

/-- OCR: T7.8 of `95_test_vectors.md`. -/
theorem test_ocr_t7_8 :
    yields ({ given 0x100#20 0x0#16 [(0#4, 1#4, 0x10#32), (0#4, 2#4,
        0xAAAA1234#32)] [] with busIn := [.data 0#16] }) [0x9E12#16]
      (fun t => t.psw.toBits &&& 15#16 == 0#16 &&
        t.busOut == [.command 0x0010#16 0x1234#16]) = true := by decide +kernel

/-- RDR: T7.9 of `95_test_vectors.md`. -/
theorem test_rdr_t7_9 :
    yields ({ given 0x100#20 0xF#16 [(0#4, 1#4, 0x10#32), (0#4, 2#4,
        0xFFFFFFFF#32)] [] with busIn := [.data 0xBEEF#16] }) [0x9B12#16]
      (fun t => t.regIn 0#4 2#4 == 0xBEEF#32 && t.psw.toBits &&& 15#16 == 0#16) = true := by decide +kernel

/-- WD: T7.10 of `95_test_vectors.md`. -/
theorem test_wd_t7_10 :
    yields ({ given 0x100#20 0x0#16 [(0#4, 1#4, 0x10#32)] [(0x600#20,
        0x4142#16)] with busIn := [.data 0#16] }) [0xDA10#16, 0x0600#16]
      (fun t => t.psw.toBits &&& 15#16 == 0#16 &&
        t.busOut == [.write 0x0010#16 0x4241#16]) = true := by decide +kernel

/-- WD: T7.11 of `95_test_vectors.md`. -/
theorem test_wd_t7_11 :
    yields ({ given 0x100#20 0x0#16 [(0#4, 1#4, 0x10#32)] [(0x600#20,
        0x4142#16)] with busIn := [.data 0#16] }) [0xDA10#16, 0x0601#16]
      (fun t => t.psw.toBits &&& 15#16 == 0#16 &&
        t.busOut == [.write 0x0010#16 0x4142#16]) = true := by decide +kernel

/-- WDR: T7.12 of `95_test_vectors.md`. -/
theorem test_wdr_t7_12 :
    yields ({ given 0x100#20 0x0#16 [(0#4, 1#4, 0xFF78#32), (0#4, 2#4,
        0x5678#32)] [] with busIn := [.data 0#16] }) [0x9A12#16]
      (fun t => t.psw.toBits &&& 15#16 == 0#16 &&
        t.busOut == [.write 0xFF78#16 0x5678#16]) = true := by decide +kernel

/-- WDR: T7.13 of `95_test_vectors.md`. -/
theorem test_wdr_t7_13 :
    yields (given 0x100#20 0x100#16 [(0#4, 1#4, 0x10#32), (0#4, 2#4, 0x5678#32)] [(0x36#20,
        0x0800#16)]) [0x9A12#16]
      (fun t => t.regIn 0#4 14#4 == 0x100#32 && t.regIn 0#4 15#4 == 0x100#32 &&
        t.psw.toBits == 0x0000#16 && t.pc == 0x800#20) = true := by decide +kernel

/-- L: T9.1 of `95_test_vectors.md`. -/
theorem test_mac_l_t9_1 :
    yields ((given 0x0#20 0x400#16 [] [(0x4000#20, 0x5810#16), (0x4002#20, 0x0123#16), (0x4122#20,
        0xAABB#16), (0x4124#20, 0xCCDD#16)]).described [(0#4, 0x00F04010#32)]) [0x5810#16, 0x0123#16]
      (fun t => t.regIn 0#4 1#4 == 0xAABBCCDD#32 && t.pc == 0x4#20) = true := by decide +kernel

/-- LB: T9.2 of `95_test_vectors.md`. -/
theorem test_mac_lb_t9_2 :
    yields ((given 0x0#20 0x400#16 [] [(0x4000#20, 0xD310#16), (0x4002#20, 0x0FFF#16), (0x4FFE#20,
        0x005A#16)]).described [(0#4, 0x00F04010#32)]) [0xD310#16, 0x0FFF#16]
      (fun t => t.regIn 0#4 1#4 == 0x5A#32) = true := by decide +kernel

/-- LB: T9.3 of `95_test_vectors.md`. -/
theorem test_mac_lb_t9_3 :
    yields ((given 0x0#20 0x400#16 [] [(0x4000#20, 0xD310#16), (0x4002#20,
        0x1000#16)]).described [(0#4, 0x00F04010#32)]) [0xD310#16, 0x1000#16]
      (fun t => t.macStatus.limit) = true := by decide +kernel

/-- ST: T9.4 of `95_test_vectors.md`. -/
theorem test_mac_st_t9_4 :
    yields ((given 0x0#20 0x400#16 [(0#4, 1#4, 0x11223344#32)] [(0x4000#20, 0x5010#16), (0x4002#20,
        0x0200#16)]).described [(0#4, 0x00F04030#32)]) [0x5010#16, 0x0200#16]
      (fun t => t.macStatus.write) = true := by decide +kernel

/-- L: T9.5 of `95_test_vectors.md`. -/
theorem test_mac_l_t9_5 :
    yields ((given 0x0#20 0x400#16 [] [(0x4000#20, 0x5810#16), (0x4002#20, 0x0200#16), (0x4200#20,
        0xCAFE#16), (0x4202#20, 0xF00D#16)]).described [(0#4, 0x00F04030#32)]) [0x5810#16, 0x0200#16]
      (fun t => t.regIn 0#4 1#4 == 0xCAFEF00D#32) = true := by decide +kernel

/-- L: T9.7 of `95_test_vectors.md`. -/
theorem test_mac_l_t9_7 :
    yields ((given 0x0#20 0x400#16 [] [(0x4000#20, 0x5810#16), (0x4002#20, 0x4005#16), (0x4004#20,
        0x0010#16), (0xFF010#20, 0x0102#16), (0xFF012#20, 0x0304#16)]).described [(0#4, 0x00F04010#32),
        (5#4, 0x000FF010#32)]) [0x5810#16, 0x4005#16, 0x0010#16]
      (fun t => t.regIn 0#4 1#4 == 0x1020304#32) = true := by decide +kernel

/-- LB: T9.8 of `95_test_vectors.md`. -/
theorem test_mac_lb_t9_8 :
    yields ((given 0x0#20 0x400#16 [] [(0x4000#20, 0xD310#16), (0x4002#20, 0x4005#16), (0x4004#20,
        0x0100#16)]).described [(0#4, 0x00F04010#32), (5#4, 0x000FF010#32)]) [0xD310#16, 0x4005#16,
        0x0100#16]
      (fun t => t.macStatus.limit) = true := by decide +kernel

/-- LB: T9.9 of `95_test_vectors.md`. -/
theorem test_mac_lb_t9_9 :
    yields ((given 0x0#20 0x400#16 [] [(0x4000#20, 0xD310#16), (0x4002#20,
        0x4001#16)]).described [(0#4, 0x00F04010#32)]) [0xD310#16, 0x4001#16, 0x0000#16]
      (fun t => t.macStatus.notPresent) = true := by decide +kernel

/-! ## Exceptions and the special instructions: single steps of `95_test_vectors.md` -/

/-- What a step answers has a property. -/
def steps (s : State) (p : State → Bool) : Bool :=
  match step s with
  | .next t => p t
  | _ => false

/-- T10.1: an unassigned op code. -/
theorem test_illegal_t10_1 :
    steps (given 0x2000#20 0x0115#16 [] [(0x32#20, 0x0030#16), (0x36#20, 0x0800#16)])
      (fun t => t.regIn 3#4 14#4 == 0x0115#32 && t.regIn 3#4 15#4 == 0x2000#32 &&
        t.psw.toBits == 0x0030#16 && t.pc == 0x800#20) = true := by decide +kernel

/-- T10.7: a store to a write-protected segment, `MAC_SAVED_PC` = next. -/
theorem test_mac_t10_7 :
    steps ((given 0x0#20 0x0403#16 [(0#4, 1#4, 0x11223344#32)] [(0x4000#20, 0x5010#16),
      (0x4002#20, 0x0200#16), (0x92#20, 0x0020#16), (0x96#20, 0x0900#16), (0x4200#20, 0xDEAD#16)]).described
        [(0#4, 0x00F04030#32)])
      (fun t => t.mem.half 0x4200#20 == 0xDEAD#16 && t.regIn 2#4 14#4 == 0x0403#32 &&
        t.regIn 2#4 15#4 == 4#32 && t.psw.toBits == 0x0020#16 && t.pc == 0x900#20 &&
        t.macStatus.write && !t.pend.mac) = true := by decide +kernel

/-- T10.12: a conventional I/O interrupt. -/
theorem test_io_t10_12 :
    steps { (given 0x1234#20 0x60C5#16 [] [(0xF4#20, 0x0A00#16)]) with requests := [request12] }
      (fun t => t.regIn 0#4 0#4 == 0x60C5#32 && t.regIn 0#4 1#4 == 0x1234#32 &&
        t.regIn 0#4 2#4 == 0x12#32 && t.psw.toBits == 0x2000#16 && t.pc == 0xA00#20 &&
        t.requests == []) = true := by decide +kernel

/-- T10.15: level 2 is not enabled in register set 4 of an enhanced Engine; LR runs instead. -/
theorem test_io_t10_15 :
    steps { (given 0x100#20 0x4040#16 [] [(0x100#20, 0x0812#16), (0xF4#20, 0x0A00#16)]) with
        requests := [request12] }
      (fun t => t.pc == 0x102#20 && t.requests == [request12]) = true := by decide +kernel

/-- T10.18: a parity error. -/
theorem test_parity_t10_18 :
    steps { (given 0x456#20 0x2413#16 [] [(0x3A#20, 0x000F#16), (0x3E#20, 0x0700#16)]) with
        pend := { State.reset.pend with parityError := true } }
      (fun t => t.mem.half 0x22#20 == 0x2413#16 && t.mem.half 0x26#20 == 0x0456#16 &&
        t.psw.toBits == 0x0002#16 && t.pc == 0x700#20 && !t.pend.parityError) = true := by decide +kernel

/-- T10.21: early power failure. -/
theorem test_power_t10_21 :
    steps { (given 0x456#20 0x0000#16 [] []) with pend := { State.reset.pend with earlyPowerDown := true } }
      (fun t => t.halt == some 0x060#12 && t.displayLeft == 0x00060#20 && t.displayRight == 0xDEAD#16) =
        true := by decide +kernel

/-- T8.1: an async instruction with psw.A = 0. -/
theorem test_sbod_t8_1 :
    yields (given 0x100#20 0x0000#16 [] [(0x36#20, 0x0800#16)]) [0x1302#16]
      (fun t => t.regIn 0#4 15#4 == 0x100#32 && t.pc == 0x800#20) = true := by decide +kernel

/-- T8.13: CKSUM with an odd count at S.18. -/
theorem test_cksum_t8_13 :
    yields (given 0x100#20 0x0000#16 [(0#4, 0#4, 0xFFFFFFBF#32)] [(0x36#20, 0x0800#16)]) [0x3742#16]
      (fun t => t.regIn 0#4 15#4 == 0x100#32 && t.pc == 0x800#20) = true := by decide +kernel

/-- A part of an instruction leaves a state with a property. -/
def leaves (r : Res Unit) (p : State → Bool) : Bool :=
  match r with
  | .ok _ t => p t
  | _ => false

/-- COPY of two halfwords, after T8.20, from either end. -/
theorem test_copy_t8_20 : ∀ down, leaves
    (copyBlock down true (blockAddrs 0x2002#32 2) (blockAddrs 0x3002#32 2) 0x1FFE#32
      (given 0x100#20 0#16 [] [(0x2000#20, 0x1111#16), (0x2002#20, 0x2222#16)]))
    (fun t => t.mem.half 0x3000#20 == 0x1111#16 && t.mem.half 0x3002#20 == 0x2222#16 &&
      t.mem.half 0x2FFE#20 == 0#16 && t.mem.half 0x3004#20 == 0#16) = true := by
  decide +kernel

/-- T8.22: COPY with a count whose low four bits are not 0 is refused. -/
theorem test_copy_t8_22 :
    exec (.copy 3#4 1#4) (given 0x100#20 0#16 [(0#4, 3#4, 0x200E#32), (0#4, 4#4, 0x300E#32),
      (0#4, 1#4, 0x75#32)] []) = .refused .copyLowBits := by rfl

/-- T8.23: COPY of blocks that overlap is refused. -/
theorem test_copy_t8_23 :
    exec (.copy 3#4 1#4) (given 0x100#20 0#16 [(0#4, 3#4, 0x200E#32), (0#4, 4#4, 0x2010#32),
      (0#4, 1#4, 0x70#32)] []) = .refused .copyOverlap := by rfl

/-- T8.28: ARAND of 49 bits is refused. -/
theorem test_arand_t8_28 :
    exec (.arand 7#4 3#4) (given 0x100#20 0#16 [(0#4, 3#4, 0x30#32)] []) =
      .refused .arandPartialHalfword := by rfl

/-- T8.25: ARAND finds bit 16 + 6. -/
theorem test_arand_t8_25 :
    yields (given 0x100#20 0#16 [(0#4, 7#4, 0x2004#32), (0#4, 8#4, 0x3004#32), (0#4, 3#4, 0x2F#32)]
      [(0x2002#20, 0x0F00#16), (0x2004#20, 0x0001#16), (0x3000#20, 0xFFFF#16), (0x3002#20, 0x0300#16)])
      [0x3E73#16] (fun t => t.reg 3#4 == 0x16#32 && t.pc == 0x102#20) = true := by decide +kernel

/-! ## Witnesses: states and operands that meet the hypotheses of each statement -/

/-- An outcome is a next state. -/
def answers (o : Out) : Bool :=
  match o with
  | .next _ => true
  | _ => false

theorem next_of_answers {o : Out} (h : answers o = true) : ∃ t, o = .next t := by
  cases o with
  | next t => exact ⟨t, rfl⟩
  | fault f => simp [answers] at h
  | refused r => simp [answers] at h

theorem some_of_isSome {α : Type} {o : Option α} (h : o.isSome = true) : ∃ t, o = some t :=
  Option.isSome_iff_exists.1 h

theorem quiet_of {s : State} (h1 : s.halt = none) (h2 : s.env.headD [] = [])
    (h3 : (takePending s.nextEvents).isNone = true) (h4 : s.psw.w = false) : s.Quiet :=
  ⟨h1, h2, Option.isNone_iff_eq_none.1 h3, h4⟩

/-- A state with a word at 0x400, and contexts at the dedicated locations of the interrupts. -/
def plain (psw : Half) : State :=
  given 0x100#20 psw [] [(0x32#20, 0x0030#16), (0x36#20, 0x0800#16), (0x3A#20, 0x0010#16),
    (0x3E#20, 0x0700#16), (0x92#20, 0x0020#16), (0x96#20, 0x0900#16), (0x9A#20, 0x0020#16),
    (0x9C#20, 0x2000#16), (0xBA#20, 0x3000#16), (0xF4#20, 0x0A00#16), (0x400#20, 0x8001#16),
    (0x402#20, 0x7FFE#16), (0x406#20, 0x0200#16)]

theorem witness_StepKeepsInv : (State.reset.withFetchWord 16 0x0865).Inv ∧
    ∃ t, step (State.reset.withFetchWord 16 0x0865) = .next t :=
  ⟨⟨by decide +kernel, by decide +kernel, by decide +kernel⟩, next_of_answers (by decide +kernel)⟩

theorem witness_ExecKeepsOutside : ∃ t, exec (.lr 6#4 5#4) State.reset = .next t :=
  next_of_answers (by decide +kernel)

theorem witness_UserCannotGainPrivilege : (plain 0x0100#16).psw.p = true ∧
    (∃ t, exec (.lr 6#4 5#4) (plain 0x0100#16) = .next t) ∧
    (∃ t, exec (.epsr 6#4 5#4) (plain 0x0100#16) = .next t) ∧
    ∃ t, exec (.svc 0#4 at400) (plain 0x0100#16) = .next t :=
  ⟨by decide +kernel, next_of_answers (by decide +kernel), next_of_answers (by decide +kernel),
    next_of_answers (by decide +kernel)⟩

theorem witness_OnlyIoReachesOut : (∀ r1 r2, Instr.lr 6#4 5#4 ≠ .cio r1 r2) ∧
    (∃ t, exec (.lr 6#4 5#4) State.reset = .next t) ∧ ∃ t, exec (.wdr 6#4 5#4) State.reset = .next t :=
  ⟨fun _ _ h => (by cases h), next_of_answers (by decide +kernel), next_of_answers (by decide +kernel)⟩

theorem witness_DecodeEncode : (Instr.jtbs 0#4 15#4).wellFormed = true ∧
    (Instr.la 4#4 (.rx3 15#4 15#4 0xFFFFFF#24)).wellFormed = true := by decide

theorem witness_EncodeDecode :
    decode [0xE64F#16, 0x4FFF#16, 0xFFFF#16, 0x1234#16] = .instr (.la 4#4 (.rx3 15#4 15#4 0xFFFFFF#24)) := by
  decide

theorem witness_NoInstruction : opClass (opField 0x0000#16) = .illegal ∧
    opClass (opField 0xFFFF#16) = .illegal ∧ opClass (opField 0xE641#16) = .rx ∧
    (0x6000#16 : Half).extractLsb' 14 2 = 1#2 ∧ (0x6000#16 : Half).extractLsb' 12 2 ≠ 0#2 := by decide

/-- LI R2,-18, placed at the program counter. -/
def placedLi : State := (plain 0x0000#16).withFetchWord 48 0xFFEEF820FFFF

theorem witness_StepRunsDecoded : placedLi.Quiet ∧
    decode [0xF820#16, 0xFFFF#16, 0xFFEE#16] = .instr (.li 2#4 0#4 0xFFFFFFEE#32) ∧
    (∀ k : Nat, k < 3 → placedLi.nextEvents.noteFetch.halfAt .fetch
      (placedLi.nextEvents.noteFetch.pc + BitVec.ofNat 20 (2 * k)) =
        some ([0xF820#16, 0xFFFF#16, 0xFFEE#16].getD k 0#16)) :=
  ⟨quiet_of rfl rfl (by decide +kernel) rfl, by decide, by decide +kernel⟩

/-- An unassigned op code at the program counter. -/
def placedIllegal : State := (plain 0x0115#16).withFetchWord 16 0x1700

theorem witness_StepTakesIllegal : placedIllegal.Quiet ∧
    placedIllegal.nextEvents.noteFetch.halfAt .fetch placedIllegal.nextEvents.noteFetch.pc =
      some 0x1700#16 ∧ opClass (opField 0x1700#16) = .illegal ∧
    placedIllegal.nextEvents.noteFetch.NewContext 0x30#20 0x34#20 0x30#32 0x800#32 :=
  ⟨quiet_of rfl rfl (by decide +kernel) rfl, by decide +kernel, by decide,
    by decide +kernel, by decide +kernel, by decide⟩

/-- A program in segment 0, whose descriptor is execute protected. -/
def noExecute : State :=
  { (plain 0x0400#16).described [(0#4, 0x0FF00090#32)] with
    params := { paramsAtReset with macSavedPc := .current } }

theorem witness_FetchFaultTakesMac : noExecute.Quiet ∧ noExecute.Inv ∧
    translate .fetch noExecute.pc noExecute = .error .execute ∧
    noExecute.params.macSavedPc = .current ∧
    noExecute.NewContext 0x90#20 0x94#20 0x20#32 0x900#32 :=
  ⟨quiet_of rfl rfl (by decide +kernel) rfl,
    ⟨by decide +kernel, by decide +kernel, by decide +kernel⟩, by rfl, rfl,
    by decide +kernel, by decide +kernel, by decide⟩

/-- One request, in a state that admits I/O interrupts on every level, with a PSW besides. -/
def asking (psw : Half) (level : IoLevel) (ack : Option Half) (service : Service) : State :=
  { (plain (psw ||| 0x40C0#16)) with requests := [{ level := level, ack := ack, service := service }] }

/-- The same on an Engine without the enhancements. -/
def unenhanced (level : IoLevel) : State :=
  { (asking 0#16 level none (serviceOf false [])) with
    params := { paramsAtReset with enhancedAsync := false, enhancedSync := false } }

/-- The only request of a state. -/
def theRequest (s : State) : IoRequest := s.requests.headD request12

theorem requested_of {s : State} {r : IoRequest}
    (h : (s.halt == none && s.env.headD [] == [] && s.parityBreak == none && s.pend == State.reset.pend &&
      s.requests == [r] && s.psw.i) = true) : s.Requested r := by
  simp only [Bool.and_eq_true, beq_iff_eq] at h
  obtain ⟨⟨⟨⟨⟨h1, h2⟩, h3⟩, h4⟩, h5⟩, h6⟩ := h
  exact ⟨h1, h2, h3, h4, h5, h6⟩

theorem witness_WaitAndHalt :
    ((plain 0x8000#16).halt = none ∧ (plain 0x8000#16).env.headD [] = [] ∧
      (takePending (plain 0x8000#16).nextEvents).isNone = true ∧ (plain 0x8000#16).psw.w = true) ∧
    ((takePending (plain 0xC000#16).nextEvents).isNone = true ∧ (plain 0xC000#16).psw.w = true) ∧
    { (plain 0x0000#16) with pend := { State.reset.pend with earlyPowerDown := true } }.halt = none ∧
    { (plain 0x0000#16) with halt := some 0x060#12 }.halt = some 0x060#12 :=
  ⟨⟨rfl, rfl, by decide +kernel, by decide +kernel⟩, ⟨by decide +kernel, by decide +kernel⟩, rfl, rfl⟩

/-- The requests whose acknowledge, or whose level, halts the microcode. -/
theorem witness_WaitAndHalt_levels :
    (∀ level ∈ [IoLevel.atn0, .atn1, .atn2], (unenhanced level).Requested (theRequest (unenhanced level)) ∧
      (asking 0x0200#16 level none (serviceOf false [])).Requested
        (theRequest (asking 0x0200#16 level none (serviceOf false []))) ∧
      12 ≤ (asking 0x0200#16 level none (serviceOf false [])).psw.rs.toNat) ∧
    (unenhanced .atn0).params.enhancedAsync = false ∧ (unenhanced .atn0).params.enhancedSync = false := by
  refine ⟨?_, rfl, rfl⟩
  intro level _
  cases level <;>
    exact ⟨requested_of (by decide +kernel), requested_of (by decide +kernel), by decide +kernel⟩

/-- Devices out of the sync range, next to its ends. -/
theorem witness_WaitAndHalt_range : ∀ dev ∈ [0x001F#16, 0x0040#16, 0x0070#16],
    (asking 0x0200#16 .atn1 (some dev) (serviceOf false [])).params.enhancedSync = true ∧
    (asking 0x0200#16 .atn1 (some dev) (serviceOf false [])).syncDevice dev = false := by
  intro dev h
  fin_cases h <;> exact ⟨by decide +kernel, by decide +kernel⟩

/-- A parity error is pending and enabled. -/
def parity : State :=
  { (plain 0x2413#16) with pend := { State.reset.pend with parityError := true } }

/-- After the old PSW and location have been stored. -/
def parityStored : State :=
  parity.nextEvents.setMem ((((parity.mem.setHalf 0x20#20 0#16).setHalf 0x22#20
    parity.psw.toBits).setHalf 0x24#20 ((pcImage parity.pc).extractLsb' 16 16)).setHalf 0x26#20
    (parity.pc.setWidth 16))

theorem witness_MachineMalfunction : parity.halt = none ∧ parity.env.headD [] = [] ∧
    parity.pend.earlyPowerDown = false ∧ parity.pend.consoleAttention = false ∧
    parity.psw.m = true ∧ parity.pend.parityError = true ∧
    pagePresent parity.params 0x20#20 = true ∧
    parityStored.NewContext 0x38#20 0x3C#20 0x10#32 0x700#32 :=
  ⟨rfl, rfl, rfl, rfl, by decide +kernel, rfl, by decide +kernel, by decide +kernel, by decide +kernel,
    by decide⟩

/-- Register set 12 or above admits every level. -/
theorem levelOpen_of {s : State} {level : IoLevel} (h : 12 ≤ s.psw.rs.toNat) : s.LevelOpen level := by
  cases level
  · exact trivial
  · exact fun _ => by omega
  · exact fun _ => h

/-- Power has been restored, and the condition is enabled. -/
def restored : State :=
  { (plain 0x2413#16) with pend := { State.reset.pend with powerRestored := true } }

/-- The context at 0x38 is not touched by the words stored from 0x20 on. -/
theorem witness_MachineMalfunction_power (x y : Word) : restored.parityBreak = none ∧
    restored.psw.m = true ∧ restored.pend.powerRestored = true ∧ restored.pend.parityError = false ∧
    (restored.nextEvents.tick.tick.setMem ((((restored.mem.setHalf 0x20#20 (x.extractLsb' 16 16)).setHalf
      0x22#20 (x.setWidth 16)).setHalf 0x24#20 (y.extractLsb' 16 16)).setHalf 0x26#20
      (y.setWidth 16))).NewContext 0x38#20 0x3C#20 0x10#32 0x700#32 := by
  have away (pa : Addr) (h : pa ∈ [0x38#20, 0x3A#20, 0x3C#20, 0x3E#20]) :
      ((((restored.mem.setHalf 0x20#20 (x.extractLsb' 16 16)).setHalf 0x22#20 (x.setWidth 16)).setHalf
        0x24#20 (y.extractLsb' 16 16)).setHalf 0x26#20 (y.setWidth 16)).half pa = restored.mem.half pa := by
    fin_cases h <;>
      rw [Memory.half_setHalf_other (by decide), Memory.half_setHalf_other (by decide),
        Memory.half_setHalf_other (by decide), Memory.half_setHalf_other (by decide)]
  refine ⟨rfl, by decide +kernel, rfl, rfl, ?_, ?_, by decide⟩
  · exact (congrArg₂ (fun a b : Half => some (a ++ b)) (away 0x38#20 (by simp)) (away 0x3A#20 (by simp))).trans
      (by decide +kernel)
  · exact (congrArg₂ (fun a b : Half => some (a ++ b)) (away 0x3C#20 (by simp)) (away 0x3E#20 (by simp))).trans
      (by decide +kernel)

/-- A level 1 interrupt of a device out of the sync range is the halt 610, whatever psw.S is (R37, R495). -/
theorem test_level1_halt : ∀ sync : Bool,
    takeLevel1 request12 { State.reset with psw := { State.reset.psw with s := sync } } =
      .next ({ State.reset with psw := { State.reset.psw with s := sync } }.haltWith 0x610#12) := by
  intro sync
  rfl

/-- Conventional interrupts on each level, of a sync card on level 1. -/
theorem witness_IoInterrupt : ∀ p ∈ ([(.atn0, 0x0012#16, 0x0A00#16), (.atn1, 0x0020#16, 0#16),
      (.atn2, 0x0012#16, 0x0A00#16)] : List (IoLevel × Half × Half)),
    let s := asking 0#16 p.1 (some p.2.1) (serviceOf false [])
    s.Requested (theRequest s) ∧ s.LevelOpen p.1 ∧ s.psw.s = false ∧
    s.params.enhancedSync = true ∧ (p.1 = .atn1 → s.syncDevice p.2.1 = true) ∧
    (theRequest s).ack = some p.2.1 ∧
    s.absHalf (BitVec.ofNat 20 (0xD0 + 2 * (p.2.1.toNat % 256))) = some p.2.2 ∧
    p.2.2.getLsbD 0 = false := by
  intro p h
  fin_cases h <;>
    exact ⟨requested_of (by decide +kernel), levelOpen_of (by decide +kernel), by decide +kernel⟩

/-- A sync interrupt of line 0 with this output index and this input index, in an input block at 0x17FFE. -/
def onLine (output : Bool) (index dev : Half) : State :=
  let s := asking 0x0200#16 .atn1 (some dev) (serviceOf output [])
  s.setMem ((s.mem.setHalf 0x404#20 index).setHalf 0x17FFE#20 index)

/-- Sync interrupts of the first and the last device, handed on and serviced: output indices of 0 and next
to it, input indices on either side of the sign. -/
theorem witness_IoInterrupt_sync : ∀ dev ∈ [0x0020#16, 0x003F#16],
    ∀ p ∈ ([(true, 0#16, true), (true, 1#16, false), (true, 0xFFFF#16, false), (false, 0x8000#16, true),
      (false, 0x7FFF#16, false), (false, 0#16, false)] : List (Bool × Half × Bool)),
    let s := onLine p.1 p.2.1 dev
    let v := (theRequest s).service
    s.Requested (theRequest s) ∧ s.LevelOpen .atn1 ∧ s.psw.s = true ∧ s.syncDevice dev = true ∧
    s.serviceHalf v 0x404#32 = p.2.1 ∧
    s.serviceHalf v (s.serviceHalf v 0x400#32 ++ s.serviceHalf v 0x402#32) = p.2.1 ∧
    s.handsOn v = p.2.2 ∧ s.absHalf (BitVec.ofNat 20 (0xD0 + 2 * (dev.toNat % 256))) = some 0#16 := by
  intro dev hd p hp
  fin_cases hd <;> fin_cases hp <;>
    exact ⟨requested_of (by decide +kernel), levelOpen_of (by decide +kernel), by decide +kernel⟩

/-- The latches that power-up resets (R520). -/
theorem test_power_latches (s : State) : s.losePower.pend.mac = false ∧ s.losePower.pend.macWaiting = false ∧
    s.losePower.pend.parityError = false ∧ s.losePower.pend.earlyPowerDown = false := ⟨rfl, rfl, rfl, rfl⟩

/-- The constants of set 1 as the software initialises them for one group of ports, AS.CTL at 0x10000: F is
12, F5 is 0x3C, AS.SIZ is 113 * 12 + 0x30 * 0x3C = 0x108C (R400, R401). -/
def constantsOne : List (Nib × Reg × Word) :=
  [(1#4, 5#4, 0x10000#32), (1#4, 10#4, 0x00020004#32), (1#4, 11#4, 0x00060008#32),
    (1#4, 12#4, 0x000A000C#32), (1#4, 13#4, 0x108C#32), (1#4, 14#4, 0x1168C#32),
    (1#4, 15#4, 0x000F0091#32)]

/-- Those of set 2 (R400). -/
def constantsTwo : List (Nib × Reg × Word) :=
  [(2#4, 7#4, 0x1168C#32), (2#4, 10#4, 15#32), (2#4, 13#4, 0x108C#32), (2#4, 14#4, 0x00F0003C#32),
    (2#4, 15#4, 0x10400#32)]

/-- An async interrupt of a device in register set F, the timer count as given, the microcode's constants
as initialised. -/
def asyncRequest (dev : Half) (count : Word) : State :=
  (constantsOne ++ constantsTwo ++ [(13#4, 14#4, count), (13#4, 15#4, 0x800#32)]).foldl
    (fun s r => s.setRegIn r.1 r.2.1 r.2.2)
    (asking 0x00F0#16 .atn0 (some dev) (serviceOf false [(2#4, 3#4, 7#32)]))

/-- The timer is due when its count of 0 goes down in set F, and only at device 75. -/
theorem witness_IoInterrupt_async : ∀ p ∈ ([(0x0070#16, 0#32), (0x0075#16, 0#32), (0x0075#16, 1#32)] :
      List (Half × Word)),
    (asyncRequest p.1 p.2).asyncReady = true ∧ (asyncRequest p.1 p.2).params.enhancedAsync = true ∧
    (asyncRequest p.1 p.2).psw.rs = 15#4 ∧ (asyncRequest p.1 p.2).regIn 13#4 14#4 = p.2 ∧
    ((asyncRequest p.1 p.2).regIn 13#4 15#4).getLsbD 0 = false ∧
    (asyncRequest p.1 p.2).Requested (theRequest (asyncRequest p.1 p.2)) := by
  intro p h
  fin_cases h <;>
    exact ⟨by decide +kernel, by decide +kernel, by decide +kernel, by decide +kernel, by decide +kernel,
      requested_of (by decide +kernel)⟩

theorem witness_MixedWidths :
    (given 0x100#20 0#16 [(0#4, 1#4, 0x11223344#32)] []).psw.rp = false ∧
    (given 0x100#20 0#16 [(0#4, 1#4, 0x11223344#32)] []).mem.wf = true ∧
    ((given 0x100#20 0#16 [(0#4, 1#4, 0x11223344#32)] []).effAddr
      (.rx3 0#4 0#4 0x0FFFFC#24)).toNat % 4 = 0 ∧
    isPlain paramsAtReset 0xFFFFC#20 = true ∧
    (given 0x100#20 0#16 [(0#4, 1#4, 0x11223344#32)] []).reg 1#4 = 0x11223344#32 := by decide +kernel

theorem witness_Translation :
    (plain 0x0000#16).psw.rp = false ∧ (plain 0x0400#16).psw.rp = true ∧
    (0x00F04000#32 : Word).getMsbD 27 = false ∧
    ((0x00F04010#32 : Word).getMsbD 27 = true ∧ (0x00F04010#32 : Word).toNat / 2 ^ 20 % 256 < 0x10) ∧
    (0x0F ≤ (0x00F04010#32 : Word).toNat / 2 ^ 20 % 256) ∧ (0x00F04090#32 : Word).getMsbD 24 = true ∧
    (0x00F04030#32 : Word).getMsbD 26 = true ∧
    ¬(Access.read = .fetch ∧ (0x00F04030#32 : Word).getMsbD 24 = true) := by decide +kernel

theorem witness_DescriptorStore : (plain 0x0000#16).psw.rp = false ∧
    (plain 0x0000#16).effAddr (.rx1 0#4 0x300#14) = BitVec.ofNat 32 (0x300 + 4 * (0#4 : Nib).toNat) ∧
    (plain 0x0000#16).effAddr (.rx1 0#4 0x33C#14) = BitVec.ofNat 32 (0x300 + 4 * (15#4 : Nib).toNat) ∧
    (∀ b, (plain 0x0000#16).params.macStatus.clear ≠ .onRead b) ∧
    ([0x340#14, 0x342#14, 0x344#14, 0x348#14, 0x34C#14, 0x34F#14, 0x350#14, 0x3FF#14].all fun a =>
      (plain 0x0000#16).effAddr (.rx1 0#4 a) == a.setWidth 32) = true := by
  refine ⟨by decide +kernel, by decide +kernel, by decide +kernel, fun b => ?_, by decide +kernel⟩
  cases b <;> decide

/-- A read of the right half of the status register clears it, in a layout of that kind. -/
theorem test_mac_status_read_clears :
    yields { (plain 0#16) with
        macStatus := { notPresent := true, limit := false, execute := false, write := true }
        params := { paramsAtReset with macStatus := { paramsAtReset.macStatus with clear := .onRead true } } }
      [0x4810#16, 0x0342#16] (fun t => t.reg 1#4 == 9#32 && t.macStatus == MacStatus.none) = true := by
  decide +kernel

/-- Segment 0 is write protected and has 16 pages. -/
def guarded : State := (plain 0x0400#16).described [(0#4, 0x00F00030#32)]

/-- Segment 0 has 16 pages and may be written. -/
def bounded : State := (plain 0x0400#16).described [(0#4, 0x00F00010#32)]

/-- The last halfword of the 16 pages. -/
def lastHalf : RxAddr := .rx1 0#4 0xFFE#14

theorem witness_OperandFaultTakesMac : guarded.NewContext 0x90#20 0x94#20 0x20#32 0x900#32 ∧
    translate .write (evenAddr (programAddr (guarded.effAddr at400))) guarded = .error .write ∧
    translate .write (evenAddr (programAddr (guarded.effAddr at400)) + 2#20) guarded = .error .write ∧
    translate .read (evenAddr (programAddr (guarded.effAddr (.rx1 0#4 0x1000#14)))) guarded =
      .error .limit :=
  ⟨⟨by decide +kernel, by decide +kernel, by decide⟩, by rfl, by rfl, by rfl⟩

/-- An access faults on the segment limit. -/
def pastLimit (kind : Access) (va : Addr) (s : State) : Bool :=
  match translate kind va s with
  | .error .limit => true
  | _ => false

theorem limit_of_past {kind : Access} {va : Addr} {s : State} (h : pastLimit kind va s = true) :
    translate kind va s = .error .limit := by
  unfold pastLimit at h
  split at h
  · assumption
  · simp at h

/-- A fullword whose second half is past the limit; and LM and STM from register 14 on, whose second
transfer is. -/
theorem witness_OperandFaultTakesMac_partial :
    bounded.halfAt .read (evenAddr (programAddr (bounded.effAddr lastHalf))) = some 0#16 ∧
    translate .read (evenAddr (programAddr (bounded.effAddr lastHalf)) + 2#20) bounded = .error .limit ∧
    bounded.dataFull 0xFFC#32 = some 0#32 ∧
    translate .read (evenAddr (programAddr (0xFFC#32 + BitVec.ofNat 32 (4 * 1)))) bounded = .error .limit ∧
    bounded.parityBreak = none :=
  ⟨by decide +kernel, limit_of_past (by decide +kernel), by decide +kernel,
    limit_of_past (by decide +kernel), by decide +kernel⟩

/-- `bounded` with psw.M = 1 and a power restore pending. -/
def boundedDue : State := { (plain 0x2400#16).described [(0#4, 0x00F00010#32)] with
  pend := { State.reset.pend with powerRestored := true } }

/-- The same with a latched parity error in the instruction. -/
def boundedBroken : State := { (plain 0x2400#16).described [(0#4, 0x00F00010#32)] with
  parityBreak := some { transfers := 0, address := 0x1000#32, latched := true } }

/-- A machine malfunction is due, by each of its causes, where LM and STM and where the other instructions
fault. -/
theorem witness_OperandFaultTakesMac_due :
    (boundedDue.psw.m && boundedDue.pend.powerRestored && boundedDue.parityBreak == none &&
      pastLimit .read 0x1000#20 boundedDue && pastLimit .write 0x1000#20 boundedDue) = true ∧
    (boundedBroken.psw.m && boundedBroken.parityBreak.any (fun b => b.latched) &&
      pastLimit .read 0x1000#20 boundedBroken && pastLimit .write 0x1000#20 boundedBroken) = true := by
  decide +kernel

/-- LHL of 0x1000, past the limit, with a parity error due in it: the MAC interrupt waits, and the next
boundary takes the machine malfunction first (R458). -/
theorem test_mac_waits :
    yields boundedBroken [0x7310#16, 0x4000#16, 0x1000#16] (fun t => t.pend.macWaiting && !t.pend.mac &&
      t.pc == 0x106#20 && t.psw.rp && t.reportParity.pend.parityError) = true := by decide +kernel

/-- A parity error and a MAC interrupt are both pending: the machine malfunction is first, and the other waits
on (R458). -/
theorem test_mac_after_malfunction :
    (match takePending { boundedBroken with
        pend := { State.reset.pend with parityError := true, macWaiting := true } } with
      | some (.next t) => t.pend.macWaiting && !t.pend.parityError && t.pc == 0x700#20
      | _ => false) = true := by decide +kernel

/-- With psw.RP = 1 and nothing before it a waiting MAC interrupt is taken; with psw.RP = 0 it waits (R458). -/
theorem test_mac_taken_late :
    (match takePending { bounded with pend := { State.reset.pend with macWaiting := true } } with
      | some (.next t) => !t.pend.macWaiting && t.pc == 0x900#20
      | _ => false) = true ∧
    (takePending { plain 0#16 with pend := { State.reset.pend with macWaiting := true } }).isNone = true := by
  decide +kernel

/-- A parity error latched in an instruction stays pending though psw.M is 0 after it (R458). -/
theorem test_parity_stays (s : State) (b : ParityBreak) (h : s.parityBreak = some b) (hl : b.latched = true) :
    s.reportParity.pend.parityError = true := by simp [State.reportParity, h, hl]

/-- What is stored before the fault: nothing of it is where the second transfer would go. -/
theorem witness_OperandFaultTakesMac_stored :
    (bounded.begin.storedAt (evenAddr (programAddr (bounded.effAddr lastHalf))) 0#16).all (fun u =>
      pastLimit .write (evenAddr (programAddr (bounded.effAddr lastHalf)) + 2#20) u &&
        u.absFull 0x90#20 == some 0x20#32 && u.absFull 0x94#20 == some 0x900#32) = true ∧
    (bounded.begin.storedAt (evenAddr (programAddr (bounded.effAddr lastHalf))) 0#16).isSome = true ∧
    (State.storedFulls [0#32] 0xFFC#32 bounded.begin).all (fun u =>
      pastLimit .write 0x1000#20 u && pastLimit .write 0x1002#20 u &&
        u.absFull 0x90#20 == some 0x20#32 && u.absFull 0x94#20 == some 0x900#32) = true ∧
    (State.storedFulls [0#32] 0xFFC#32 bounded.begin).isSome = true := by decide +kernel

theorem witness_LoadFromMemory : (plain 0#16).dataFull ((plain 0#16).effAddr at400) = some 0x80017FFE#32 ∧
    (plain 0#16).dataHalf ((plain 0#16).effAddr at400) = some 0x8001#16 ∧
    (plain 0#16).dataByte ((plain 0#16).effAddr at401) = some 0x01#8 := by decide +kernel

theorem witness_Logical : (plain 0#16).dataFull ((plain 0#16).effAddr at400) = some 0x80017FFE#32 ∧
    (plain 0#16).dataHalf ((plain 0#16).effAddr at400) = some 0x8001#16 := by decide +kernel

theorem witness_AddResult : (plain 0#16).dataFull ((plain 0#16).effAddr at400) = some 0x80017FFE#32 ∧
    (plain 0#16).dataHalf ((plain 0#16).effAddr at400) = some 0x8001#16 := by decide +kernel

theorem witness_Subtract : (plain 0#16).dataFull ((plain 0#16).effAddr at400) = some 0x80017FFE#32 ∧
    (plain 0#16).dataHalf ((plain 0#16).effAddr at400) = some 0x8001#16 := by decide +kernel

theorem witness_Multiply : (plain 0#16).dataFull ((plain 0#16).effAddr at400) = some 0x80017FFE#32 ∧
    (plain 0#16).dataHalf ((plain 0#16).effAddr at400) = some 0x8001#16 := by decide +kernel

theorem witness_Compare : (plain 0#16).dataFull ((plain 0#16).effAddr at400) = some 0x80017FFE#32 ∧
    (plain 0#16).dataHalf ((plain 0#16).effAddr at400) = some 0x8001#16 ∧
    (plain 0#16).dataByte ((plain 0#16).effAddr at401) = some 0x01#8 := by decide +kernel

/-- A parity error after so many transfers, enabled. -/
def broken (transfers : Nat) : State := { (plain 0x2000#16) with
  parityBreak := some { transfers := transfers, address := 0x404#32, latched := true } }

theorem witness_LoadMultiple :
    (∀ k, k < 16 - (0#4 : Reg).toNat →
      State.reset.dataFull (State.reset.effAddr at400 + BitVec.ofNat 32 (4 * k)) = some 0#32) ∧
    (∀ k, k < 16 - (15#4 : Reg).toNat →
      (plain 0#16).dataFull ((plain 0#16).effAddr at400 + BitVec.ofNat 32 (4 * k)) = some 0x80017FFE#32) ∧
    State.reset.parityBreak = none ∧ (broken 0).psw.m = true ∧ 0 < 16 - (15#4 : Reg).toNat ∧
    1 < 16 - (14#4 : Reg).toNat ∧ (broken 1).dataFull ((broken 1).effAddr at400) = some 0x80017FFE#32 ∧
    (∃ t, State.storedFulls [(broken 1).reg 14#4] ((broken 1).effAddr at400) (broken 1).begin = some t) :=
  ⟨by decide +kernel, by decide +kernel, rfl, by decide +kernel, by decide, by decide, by decide +kernel,
    some_of_isSome (by decide +kernel)⟩

/-- LM R14 abandoned after one transfer: R161. -/
theorem test_lm_abandoned :
    yields (broken 1) [0xD1E0#16, 0x0400#16]
      (fun t => t.reg 14#4 == 0x80017FFE#32 && t.reg 15#4 == 0#32) = true := by decide +kernel

theorem translate_plain (kind : Access) (va : Addr) : translate kind va (plain 0#16) = .ok va := rfl

theorem witness_Store :
    (∃ t, (plain 0#16).begin.storedFull ((plain 0#16).effAddr at400) ((plain 0#16).reg 1#4) = some t) ∧
    (∃ t, (plain 0#16).begin.storedHalf ((plain 0#16).effAddr at400) 0x1234#16 = some t) ∧
    (∀ pa, translate .write (evenAddr (programAddr ((plain 0#16).effAddr at401))) (plain 0#16) = .ok pa →
      (plain 0#16).absHalf pa = some 0x8001#16) ∧
    (∃ t, State.storedFulls ((List.range (16 - (0#4 : Reg).toNat)).map fun k =>
      (plain 0#16).reg (BitVec.ofNat 4 ((0#4 : Reg).toNat + k))) ((plain 0#16).effAddr at400)
      (plain 0#16).begin = some t) :=
  ⟨some_of_isSome (by decide +kernel), some_of_isSome (by decide +kernel),
    fun pa e => by
      rw [translate_plain] at e
      cases e
      decide +kernel,
    some_of_isSome (by decide +kernel)⟩

theorem witness_StoreFrame : (plain 0#16).StoresTo ((plain 0#16).effAddr at400) 0x400#20 ∧
    (plain 0#16).mem.wf = true ∧
    translate .write (evenAddr (programAddr ((plain 0#16).effAddr at400)) + 2#20) (plain 0#16) =
      .ok 0x402#20 ∧ isPlain (plain 0#16).params 0x402#20 = true ∧
    (∃ t, exec (.sth 1#4 at400) (plain 0#16) = .next t) ∧
    (∃ t, exec (.stb 1#4 at400) (plain 0#16) = .next t) ∧
    (∃ t, exec (.ahm 1#4 at400) (plain 0#16) = .next t) ∧
    (∃ t, exec (.sbt 1#4 at400) (plain 0#16) = .next t) ∧
    (∃ t, exec (.am 1#4 at400) (plain 0#16) = .next t) ∧
    (∃ t, exec (.stm 15#4 at400) (plain 0#16) = .next t) ∧
    (∀ k, k < 2 * (16 - (15#4 : Reg).toNat) →
      translate .write (evenAddr (programAddr ((plain 0#16).effAddr at400 +
        BitVec.ofNat 32 (4 * (k / 2)))) + BitVec.ofNat 20 (2 * (k % 2))) (plain 0#16) =
        .ok (BitVec.ofNat 20 (0x400 + 2 * k)) ∧
      isPlain (plain 0#16).params (BitVec.ofNat 20 (0x400 + 2 * k)) = true) := by
  refine ⟨⟨?_, by decide +kernel⟩, by decide +kernel, ?_, by decide +kernel,
    next_of_answers (by decide +kernel), next_of_answers (by decide +kernel),
    next_of_answers (by decide +kernel), next_of_answers (by decide +kernel),
    next_of_answers (by decide +kernel), next_of_answers (by decide +kernel), ?_⟩
  · rw [translate_plain]
    congr 1
  · rw [translate_plain]
    congr 1
  · intro k hk
    rw [translate_plain]
    have : k < 2 := hk
    interval_cases k <;> exact ⟨by congr 1, by decide +kernel⟩

/-- Blocks at 0x2000 and 0x3000, two halfwords each, for COPY R3,R1. -/
def twoBlocks : State :=
  given 0x100#20 0#16 [(0#4, 3#4, 0x2002#32), (0#4, 4#4, 0x3002#32), (0#4, 1#4, 0x10#32)]
    [(0x2000#20, 0x1111#16), (0x2002#20, 0x1111#16)]

theorem witness_CopyMoves : twoBlocks.params.microcode ≠ .belowS15 ∧ twoBlocks.mem.wf = true ∧
    twoBlocks.copyBreak = none ∧ (twoBlocks.reg 1#4).toNat = 16 * (2 - 1) ∧
    twoBlocks.dataHalf (twoBlocks.reg 3#4 - BitVec.ofNat 32 (2 * (2 - 1 - 0)) - 2#32) = some 0#16 ∧
    (∀ k, k < 2 → twoBlocks.dataHalf (twoBlocks.reg 3#4 - BitVec.ofNat 32 (2 * (2 - 1 - k))) =
      some 0x1111#16 ∧
      translate .read (evenAddr (programAddr (twoBlocks.reg 3#4 - BitVec.ofNat 32 (2 * (2 - 1 - k)))))
        twoBlocks = .ok (BitVec.ofNat 20 (0x2000 + 2 * k))) ∧
    (∀ k, k < 2 → twoBlocks.StoresTo (twoBlocks.reg (3#4 + 1#4) - BitVec.ofNat 32 (2 * (2 - 1 - k)))
      (BitVec.ofNat 20 (0x3000 + 2 * k))) ∧
    (∀ j k : Nat, j < 2 → k < 2 → BitVec.ofNat 20 (0x2000 + 2 * j) ≠ BitVec.ofNat 20 (0x3000 + 2 * k)) ∧
    (∀ j k : Nat, j < k → k < 2 → BitVec.ofNat 20 (0x3000 + 2 * j) ≠ BitVec.ofNat 20 (0x3000 + 2 * k)) := by
  refine ⟨by decide +kernel, by decide +kernel, rfl, by decide +kernel, by decide +kernel, ?_, ?_, ?_, ?_⟩
  · intro k hk
    interval_cases k <;> exact ⟨by decide +kernel, by rfl⟩
  · intro k hk
    interval_cases k <;> exact ⟨by rfl, by decide +kernel⟩
  · intro j k hj hk
    interval_cases j <;> interval_cases k <;> decide
  · intro j k hj hk
    interval_cases k <;> interval_cases j <;> decide

/-- COPY R3,R1 with destination blocks that begin at the last halfword of the source, and end at its first;
and with a count that is no multiple of 16. -/
theorem witness_CopyMoves_refused :
    (∀ last ∈ [0x201C#32, 0x2000#32],
      let s := (twoBlocks.setRegIn 0#4 1#4 0x70#32).setRegIn 0#4 3#4 0x200E#32 |>.setRegIn 0#4 4#4 last
      s.params.microcode ≠ .belowS15 ∧ (s.reg 1#4).toNat = 16 * (8 - 1) ∧
      ((evenAddr (programAddr (s.reg 3#4 - BitVec.ofNat 32 (2 * (8 - 1 - 7)))) =
          evenAddr (programAddr (s.reg (3#4 + 1#4) - BitVec.ofNat 32 (2 * (8 - 1 - 0))))) ∨
        (evenAddr (programAddr (s.reg 3#4 - BitVec.ofNat 32 (2 * (8 - 1 - 0)))) =
          evenAddr (programAddr (s.reg (3#4 + 1#4) - BitVec.ofNat 32 (2 * (8 - 1 - 7))))))) ∧
    ((twoBlocks.setRegIn 0#4 1#4 0x11#32).reg 1#4).toNat % 16 ≠ 0 := by
  refine ⟨?_, by decide +kernel⟩
  intro last h
  fin_cases h <;> decide +kernel

/-- Two bit arrays of one halfword each, for ARAND R7,R3. -/
def arrays (a b : Half) : State :=
  given 0x100#20 0#16 [(0#4, 7#4, 0x2000#32), (0#4, 8#4, 0x3000#32), (0#4, 3#4, 0xF#32)]
    [(0x2000#20, a), (0x3000#20, b)]

theorem witness_ArrayAnd : (arrays 0x0F00#16 0x0300#16).params.microcode ≠ .belowS15 ∧
    ((arrays 0x0F00#16 0x0300#16).reg 3#4 + 1#32).toNat = 16 * 1 ∧
    ((arrays 0x0F00#16 0x0300#16).reg 7#4 + 1#32).toNat % 16 ≠ 0 ∧
    (arrays 0x0F00#16 0x0300#16).psw.rp = false ∧ (3#4 : Reg) ≠ 7#4 ∧ (3#4 : Reg) ≠ 7#4 + 1#4 ∧
    (∀ j, j < 1 →
      (arrays 0x0F00#16 0x0300#16).dataHalf ((arrays 0x0F00#16 0x0300#16).reg 7#4 -
        BitVec.ofNat 32 (2 * (1 - 1 - j))) = some 0x0F00#16 ∧
      (arrays 0x0F00#16 0x0300#16).dataHalf ((arrays 0x0F00#16 0x0300#16).reg (7#4 + 1#4) -
        BitVec.ofNat 32 (2 * (1 - 1 - j))) = some 0x0300#16) ∧
    ((0x0F00#16 : Half) &&& 0x0300#16).getMsbD 6 = true ∧
    (∀ i, i < 6 → ((0x0F00#16 : Half) &&& 0x0300#16).getMsbD i = false) ∧
    (0x0F00#16 : Half) &&& 0x00FF#16 = 0#16 := by decide +kernel

theorem witness_TestAndSet :
    translate .write (evenAddr (programAddr ((plain 0#16).effAddr at400))) (plain 0#16) = .ok 0x400#20 ∧
    (plain 0#16).absHalf 0x400#20 = some 0x8001#16 ∧
    ∃ t, (plain 0#16).begin.storedAbs 0x400#20 0xFFFF#16 = some t := by
  refine ⟨?_, by decide +kernel, some_of_isSome (by decide +kernel)⟩
  rw [translate_plain]
  congr 1

/-- Bit 17 is asked for. -/
def bit17 : State :=
  given 0x100#20 0#16 [(0#4, 1#4, 0x11#32)] [(0x400#20, 0x8001#16), (0x402#20, 0x7FFE#16)]

theorem witness_BitInstructions :
    (plain 0#16).dataHalf ((plain 0#16).effAddr at400 +
      BitVec.ofNat 32 (2 * (((plain 0#16).reg 1#4).toNat / 16))) = some 0x8001#16 ∧
    bit17.dataHalf (bit17.effAddr at400 + BitVec.ofNat 32 (2 * ((bit17.reg 1#4).toNat / 16))) =
      some 0x7FFE#16 ∧
    ∃ t, bit17.begin.storedHalf (bit17.effAddr at400 + BitVec.ofNat 32 (2 * ((bit17.reg 1#4).toNat / 16)))
      0x3FFE#16 = some t :=
  ⟨by decide +kernel, by decide +kernel, some_of_isSome (by decide +kernel)⟩

theorem witness_JumpOnCondition : ((plain 0x0002#16).maskedCc 2#4 != 0#16) = true ∧
    ((plain 0x0002#16).maskedCc 13#4 == 0#16) = true ∧ (plain 0x0002#16).psw.t = false ∧
    (((plain 0x0002#16).effAddr at400).setWidth 20 : Addr).getLsbD 0 = false ∧
    (((plain 0x0002#16).effAddr at401).setWidth 20 : Addr).getLsbD 0 = true ∧
    ((plain 0x0002#16).pc - BitVec.ofNat 20 (2 * (15#4 : Nib).toNat)).getLsbD 0 = false := by decide +kernel

theorem witness_ExtendedJumps : (plain 0x000F#16).psw.t = false ∧ (plain 0x000F#16).psw.g = true ∧
    (plain 0x000F#16).psw.l = true ∧ (plain 0x000F#16).psw.c = true ∧
    (plain 0x0000#16).psw.g = false ∧ (plain 0x0000#16).psw.l = false ∧ (plain 0x0000#16).psw.c = false ∧
    (((plain 0x000F#16).effAddr at400).setWidth 20 : Addr).getLsbD 0 = false ∧
    (((plain 0x000F#16).effAddr at401).setWidth 20 : Addr).getLsbD 0 = true := by decide +kernel

theorem witness_ExtendedShortJumps : (plain 0x000F#16).psw.t = false ∧ (plain 0x000F#16).psw.g = true ∧
    (plain 0x000F#16).psw.l = true ∧ (plain 0x000F#16).psw.c = true ∧
    (plain 0x0000#16).psw.g = false ∧ (plain 0x0000#16).psw.l = false ∧ (plain 0x0000#16).psw.c = false ∧
    ((plain 0x000F#16).pc + BitVec.ofNat 20 (2 * (15#4 : Nib).toNat)).getLsbD 0 = false := by decide +kernel

theorem witness_JumpAndLink : (plain 0#16).psw.t = false ∧
    ((plain 0#16).effAddr at400).getLsbD 0 = false ∧ ((plain 0#16).reg 3#4).getLsbD 0 = false ∧
    ((plain 0#16).effAddr at401).getLsbD 0 = true ∧
    (((plain 0#16).setRegIn 0#4 3#4 1#32).reg 3#4).getLsbD 0 = true := by decide +kernel

/-- Register 4 has its leftmost 1 in bit 31. -/
def lastOne : State := given 0x100#20 0#16 [(0#4, 4#4, 1#32), (0#4, 5#4, 0x80008000#32)] []

theorem witness_JumpFirstOne : lastOne.psw.t = false ∧ lastOne.pc.getLsbD 0 = false ∧
    lastOne.reg 6#4 = 0#32 ∧
    ((lastOne.reg 4#4).getMsbD 31 = true ∧ ∀ j, j < 31 → (lastOne.reg 4#4).getMsbD j = false) ∧
    (lastOne.reg 5#4).getMsbD 0 = true ∧
    ((lastOne.reg 6#4).setWidth 16 : Half) = 0#16 ∧
    (((lastOne.reg 4#4).setWidth 16 : Half).getMsbD 15 = true ∧
      ∀ j, j < 15 → ((lastOne.reg 4#4).setWidth 16 : Half).getMsbD j = false) ∧
    ((lastOne.reg 5#4).setWidth 16 : Half).getMsbD 0 = true := by decide +kernel

/-- Tracing, with the routine's address at 0x18. -/
def traced : State := given 0x100#20 0x1002#16 [] [(0x1A#20, 0x0700#16)]

/-- The trap from a state to a target can be taken: its hypotheses can be met. -/
def canTrap (u : State) (target : Addr) : Bool :=
  match u.storedFull 0x14#32 (pcImage target) with
  | some v =>
    match v.storedFull 0x10#32 u.psw.image with
    | some w => w.dataFull 0x18#32 == some 0x700#32
    | none => false
  | none => false

/-- An odd target is refused with psw.T set too (R274, D18). -/
theorem test_odd_target :
    exec (.jr 15#4) (given 0x400#20 0x1000#16 [(0#4, 15#4, 0x201#32)] [(0x1A#20, 0x0700#16)]) =
      .refused .oddProgramCounter := by rfl

theorem witness_TraceTrap : traced.psw.t = true ∧ traced.psw.meets 2#4 = true ∧
    traced.psw.meets 13#4 = false ∧ traced.targetRx at400 = 0x400#20 ∧
    canTrap traced.begin 0x400#20 = true ∧ (traced.targetRx at401).getLsbD 0 = true ∧
    (pcOfImage 0x700#32).getLsbD 0 = false := by decide +kernel

/-- Tracing with each flag set or clear, a register with its last bit set and one of zero. -/
def tracedFlags (cc : Half) : State :=
  given 0x100#20 (0x1000#16 ||| cc) [(0#4, 4#4, 1#32)] [(0x1A#20, 0x0700#16)]

theorem witness_TraceTrap_forms : (tracedFlags 15#16).psw.t = true ∧ (tracedFlags 15#16).psw.g = true ∧
    (tracedFlags 15#16).psw.l = true ∧ (tracedFlags 15#16).psw.c = true ∧
    (tracedFlags 0#16).psw.g = false ∧ (tracedFlags 0#16).psw.l = false ∧
    (tracedFlags 0#16).psw.c = false ∧
    ((tracedFlags 0#16).reg 4#4).getMsbD 31 = true ∧
    (∀ j, j < 31 → ((tracedFlags 0#16).reg 4#4).getMsbD j = false) ∧
    (((tracedFlags 0#16).reg 4#4).setWidth 16 : Half).getMsbD 15 = true ∧
    (∀ j, j < 15 → (((tracedFlags 0#16).reg 4#4).setWidth 16 : Half).getMsbD j = false) ∧
    (tracedFlags 0#16).reg 5#4 = 0#32 ∧
    canTrap ((tracedFlags 0#16).begin.setReg 5#4 31#32) 0x104#20 = true := by decide +kernel

theorem witness_AddToMemory : (plain 0#16).dataFull ((plain 0#16).effAddr at400) = some 0x80017FFE#32 ∧
    (plain 0#16).dataHalf ((plain 0#16).effAddr at400) = some 0x8001#16 ∧
    (∃ t, (plain 0#16).begin.storedFull ((plain 0#16).effAddr at400) 0x80017FFE#32 = some t) ∧
    ∃ t, ((plain 0#16).begin.setFlags (ccOf false (-32767))).storedHalf ((plain 0#16).effAddr at400)
      0x8001#16 = some t :=
  ⟨by decide +kernel, by decide +kernel, some_of_isSome (by decide +kernel),
    some_of_isSome (by decide +kernel)⟩

/-- Dividends in registers 4 and 5, divisors in 6 and at 0x400. -/
def dividing : State :=
  given 0x100#20 0#16 [(0#4, 4#4, 6#32), (0#4, 5#4, 0xFFFFFFFF#32), (0#4, 6#4, 7#32),
    (0#4, 8#4, 0x0006FFFF#32), (0#4, 10#4, 7#32), (0#4, 12#4, 0x00070000#32)]
    [(0x402#20, 7#16), (0x404#20, 7#16)]

theorem witness_Divide : (0xFFFFFFFF : Nat) < 2 ^ 32 ∧
    (dividing.reg 4#4).toNat * 2 ^ 32 + (dividing.reg (4#4 + 1#4)).toNat =
      0xFFFFFFFF * (7#32 : Word).toNat + 6 ∧
    dividing.reg 6#4 = 7#32 ∧ dividing.dataFull (dividing.effAddr at400) = some 7#32 ∧
    (65535 : Nat) < 2 ^ 16 ∧ (dividing.reg 8#4).toNat = 65535 * (7#16 : Half).toNat + 6 ∧
    ((dividing.reg 6#4).setWidth 16 : Half) = 7#16 ∧
    dividing.dataHalf (dividing.effAddr (.rx1 0#4 0x404#14)) = some 7#16 := by decide +kernel

theorem witness_DivideOpen : dividing.reg 0#4 = 0#32 ∧
    2 ^ 32 * (dividing.reg 6#4).toNat ≤
      (dividing.reg 10#4).toNat * 2 ^ 32 + (dividing.reg (10#4 + 1#4)).toNat ∧
    dividing.dataFull (dividing.effAddr at400) = some 7#32 ∧
    dividing.dataFull (dividing.effAddr (.rx1 0#4 0x500#14)) = some 0#32 ∧
    65536 * ((dividing.reg 6#4).toNat % 65536) ≤ (dividing.reg 12#4).toNat ∧
    (dividing.reg 0#4).toNat % 65536 = 0 ∧
    dividing.dataHalf (dividing.effAddr (.rx1 0#4 0x404#14)) = some 7#16 ∧
    dividing.dataHalf (dividing.effAddr (.rx1 0#4 0x500#14)) = some 0#16 := by decide +kernel

theorem witness_RegisterFrame : (∃ t, exec (.lr 6#4 5#4) (plain 0#16) = .next t) ∧
    (∃ t, exec (.cr 6#4 5#4) (plain 0#16) = .next t) ∧ ∃ t, exec (.mr 15#4 5#4) (plain 0#16) = .next t :=
  ⟨next_of_answers (by decide +kernel), next_of_answers (by decide +kernel),
    next_of_answers (by decide +kernel)⟩

/-- A PSW and a location at 0x400 and in registers 0 and 1. -/
def newStatus : State :=
  given 0x100#20 0#16 [(0#4, 0#4, 0x41F2#32), (0#4, 1#4, 0xFFF12344#32)]
    [(0x402#20, 0x41F2#16), (0x404#20, 0xFFF1#16), (0x406#20, 0x2344#16)]

theorem witness_LoadStatus : newStatus.psw.p = false ∧ (0xFFF12344#32 : Word).getLsbD 0 = false ∧
    ¬(newStatus.params.enhancedAsync = true ∧ (0x41F2#32 : Word).toNat / 16 % 16 = 15 ∧
      (newStatus.regIn 13#4 14#4).msb = true) ∧
    newStatus.dataFull (newStatus.effAddr at400) = some 0x41F2#32 ∧
    newStatus.dataFull (newStatus.effAddr at400 + 4#32) = some 0xFFF12344#32 ∧
    newStatus.reg 0#4 = 0x41F2#32 ∧ newStatus.reg 1#4 = 0xFFF12344#32 := by decide +kernel

theorem witness_UserLoadStatus : newStatus.dataFull (newStatus.effAddr at400) = some 0x41F2#32 ∧
    newStatus.dataFull (newStatus.effAddr at400 + 4#32) = some 0xFFF12344#32 ∧
    (0xFFF12344#32 : Word).getLsbD 0 = false := by decide +kernel

/-- The async timer's count is negative. -/
def timerState : State :=
  given 0x100#20 0#16 [(0#4, 0#4, 0x40F2#32), (0#4, 1#4, 0x12344#32), (13#4, 14#4, 0xFFFFFFFF#32),
    (13#4, 15#4, 0x800#32)] [(0x402#20, 0x40F2#16), (0x404#20, 1#16), (0x406#20, 0x2344#16)]

theorem witness_TimerRoutine : timerState.psw.p = false ∧ timerState.params.enhancedAsync = true ∧
    (timerState.reg 0#4).toNat / 16 % 16 = 15 ∧ (timerState.regIn 13#4 14#4).msb = true ∧
    (timerState.reg 1#4).getLsbD 0 = false ∧ (timerState.regIn 13#4 15#4).getLsbD 0 = false ∧
    timerState.dataFull (timerState.effAddr at400) = some (timerState.reg 0#4) ∧
    timerState.dataFull (timerState.effAddr at400 + 4#32) = some (timerState.reg 1#4) := by
  decide +kernel

theorem witness_ExchangeStatus : (plain 0x0100#16).psw.p = true ∧
    (plain 0x0100#16).NewContext 0x30#20 0x34#20 0x30#32 0x800#32 ∧ (plain 0#16).psw.p = false ∧
    (1#4 : Reg) ≠ 2#4 :=
  ⟨by decide +kernel, ⟨by decide +kernel, by decide +kernel, by decide⟩, by decide +kernel, by decide⟩

theorem witness_SupervisorCall : (plain 0x0100#16).absFull 0x98#20 = some 0x20#32 ∧
    (plain 0x0100#16).absHalf (BitVec.ofNat 20 (0x9C + 2 * (0#4 : Nib).toNat)) = some 0x2000#16 ∧
    (plain 0x0100#16).absHalf (BitVec.ofNat 20 (0x9C + 2 * (15#4 : Nib).toNat)) = some 0x3000#16 ∧
    (0x2000#16 : Half).getLsbD 0 = false := by decide +kernel

theorem witness_PrivilegedTakesIllegal : (plain 0x0100#16).psw.p = true ∧
    (plain 0x0100#16).NewContext 0x30#20 0x34#20 0x30#32 0x800#32 :=
  ⟨by decide +kernel, by decide +kernel, by decide +kernel, by decide⟩

theorem witness_DeviceInput : (plain 0#16).psw.p = false ∧ (plain 0#16).busIn = [] ∧
    { (plain 0#16) with busIn := [.timeout] }.busIn = .timeout :: [] ∧
    { (plain 0#16) with busIn := [.data 0x8035#16] }.busIn = .data 0x8035#16 :: [] :=
  ⟨by decide +kernel, rfl, rfl, rfl⟩

theorem witness_DeviceOutput : (plain 0#16).psw.p = false ∧
    (false = true ↔ ∃ d rest, (plain 0#16).busIn = .data d :: rest) ∧
    (true = true ↔ ∃ d rest, { (plain 0#16) with busIn := [.data 1#16] }.busIn = .data d :: rest) ∧
    (plain 0#16).dataHalf ((plain 0#16).effAddr at400) = some 0x8001#16 := by
  refine ⟨by decide +kernel, ⟨fun h => (by cases h), ?_⟩, ⟨fun _ => ⟨_, _, rfl⟩, fun _ => rfl⟩,
    by decide +kernel⟩
  rintro ⟨d, rest, h⟩
  cases h

/-- Counts of CKSUM that are not legal. -/
def badCount (level : Config.MicrocodeLevel) (n : Word) : State :=
  { (plain 0#16).setRegIn 0#4 0#4 n with params := { paramsAtReset with microcode := level } }

theorem witness_SpecialLegality : (plain 0#16).psw.a = false ∧
    (badCount .belowS15 0#32).params.microcode = .belowS15 ∧
    ((badCount .s18 0xFFFFFFBF#32).reg 0#4).toInt % 2 = 1 ∧ 0 < ((badCount .s18 2#32).reg 0#4).toInt ∧
    ((badCount .s15 0xFFFFFF7F#32).reg 0#4).toInt < -0x80 ∧
    (badCount .s15 0xFFFFFF7F#32).params.microcode = .s15 ∧
    (badCount .s15 0xFFFFFF7F#32).NewContext 0x30#20 0x34#20 0x30#32 0x800#32 :=
  ⟨by decide +kernel, rfl, by decide +kernel, by decide +kernel, by decide +kernel, rfl,
    by decide +kernel, by decide +kernel, by decide⟩

theorem witness_AsyncReturns : (plain 0x0900#16).psw.a = true ∧
    (plain 0x0900#16).params.enhancedAsync = true ∧ (plain 0x0900#16).psw.rp = false ∧
    (plain 0x0900#16).asyncReady = false ∧ (plain 0x0900#16).portReady ((plain 0x0900#16).reg 2#4) = false ∧
    (plain 0x0900#16).params.asyncGroups ≤ 16 ∧
    (∀ k, k < (plain 0x0900#16).params.asyncGroups →
      (plain 0x0900#16).dataHalf ((plain 0x0900#16).reg 2#4 + BitVec.ofNat 32 (2 * k)) = some 0#16) := by
  decide +kernel

/-- XMIT for port 3 with baud rate index 5: RGX5 is the initial index, at 58 * F - F/6 = 0x2B6 in the ring;
LCTIME and the width are given (R400, R401, R405). -/
def sending (lctime width : Half) : State :=
  given 0x100#20 0x0800#16
    (constantsOne ++ constantsTwo ++ [(2#4, 9#4, 0xFFFFF22A#32), (2#4, 12#4, 0x2000#32),
      (3#4, 15#4, 0x0000FFFF#32), (0#4, 14#4, 3#32), (0#4, 13#4, 6#32), (0#4, 2#4, 5#32)])
    [(0x10406#20, lctime), (0x200A#20, width), (0x202A#20, 6#16), (0x204A#20, 2#16)]

theorem witness_AsyncReturns_xmit : (plain 0x0900#16).xmitReady = false ∧
    (sending 0x2F2#16 0x3C#16).xmitReady = true ∧
    (sending 0x2F2#16 0x3C#16).psw.a = true ∧ (sending 0x2F2#16 0x3C#16).psw.rp = false ∧
    (sending 0x2F2#16 0x3C#16).params.enhancedAsync = true ∧
    (sending 0x2F2#16 0x3C#16).params.asyncGroups = 1 ∧ (sending 0x2F2#16 0x3C#16).mem.wf = true ∧
    (sending 0x2F2#16 0x3C#16).dataHalf ((sending 0x2F2#16 0x3C#16).regIn 2#4 15#4 +
      (sending 0x2F2#16 0x3C#16).reg 13#4) = some 0x2F2#16 ∧
    (sending 0x2F2#16 0x3C#16).dataHalf ((sending 0x2F2#16 0x3C#16).regIn 2#4 12#4 +
      2#32 * (sending 0x2F2#16 0x3C#16).reg 2#4) = some 0x3C#16 ∧
    (sending 0x2F2#16 0x3C#16).dataHalf ((sending 0x2F2#16 0x3C#16).regIn 2#4 12#4 + 0x20#32 +
      2#32 * (sending 0x2F2#16 0x3C#16).reg 2#4) = some 6#16 ∧
    0x600 + asyncRingBytes (sending 0x2F2#16 0x3C#16).params = 0x168C ∧
    ((List.range 0x168C).all fun k => isPlain (sending 0x2F2#16 0x3C#16).params
      (programAddr ((sending 0x2F2#16 0x3C#16).regIn 1#4 5#4 + BitVec.ofNat 32 k))) = true := by
  decide +kernel

/-- Ports 0 and 3 have output pending, in a bit array at 0x10406; TAM is on for all, and SBX is at its
initial place, two steps behind RGX1 (R371, R400). Ports 5 and 3 wait for SBA in the first entry of the
control ring. -/
def pendingPorts : State :=
  let s := (((sending 0x9000#16 0#16).setRegIn 0#4 9#4 0x10406#32).setRegIn 1#4 7#4 0xFFFFEF76#32).setRegIn
    1#4 8#4 0xFFFFEF7E#32
  s.setMem (((s.mem.setHalf 0x10000#20 5#16).setHalf 0x1020A#20 3#16).setHalf 0x10206#20 0x8000#16)

theorem witness_AsyncReturns_sbod : pendingPorts.asyncReady = true ∧ pendingPorts.psw.a = true ∧
    pendingPorts.params.enhancedAsync = true ∧ pendingPorts.psw.rp = false ∧
    pendingPorts.params.asyncGroups = 1 ∧ (pendingPorts.regIn 1#4 5#4).getLsbD 0 = false ∧
    pendingPorts.dataHalf (pendingPorts.reg 9#4 + BitVec.ofNat 32 (2 * 0)) = some 0x9000#16 ∧
    ((List.range 0x400).all fun k => isPlain pendingPorts.params
      (programAddr (pendingPorts.regIn 1#4 5#4 + BitVec.ofNat 32 k))) = true ∧
    ((List.range 0x200).all fun j => evenAddr (programAddr (pendingPorts.reg 9#4)) !=
      evenAddr (programAddr (pendingPorts.regIn 1#4 5#4 + BitVec.ofNat 32 j))) = true := by
  decide +kernel

/-- SBX at its initial place is two steps of F/3 behind; the first step turns SBA of the ports 5 and 3 on, and
advances SBX by F/3 and the control index by 2 (R400, R403). -/
theorem test_sbod_scan : pendingPorts.stepsBehind = 2 ∧
    leaves (scanSteps false 1 pendingPorts) (fun t => t.regIn 3#4 15#4 == 0x1400FFFF#32 &&
      t.regIn 1#4 4#4 == 2#32 && t.regIn 1#4 7#4 == 0xFFFFEF7A#32 && t.stepsBehind == 1) = true := by decide +kernel

/-- GCHAR for port 3 with baud rate index 5, RCHAR at 0x3000 (R374, R405). -/
def receiving : State :=
  let s := pendingPorts.setRegIn 2#4 11#4 0x3000#32
  s.setMem (s.mem.setHalf 0x300A#20 0x50#16)

theorem witness_AsyncReturns_gchar : receiving.portReady (receiving.reg 2#4) = true ∧
    receiving.psw.a = true ∧ receiving.params.enhancedAsync = true ∧ receiving.psw.rp = false ∧
    receiving.params.asyncGroups = 1 ∧ receiving.mem.wf = true ∧
    (receiving.regIn 1#4 5#4).getLsbD 0 = false ∧
    receiving.dataHalf (receiving.regIn 2#4 11#4 + 2#32 * receiving.reg 2#4) = some 0x50#16 ∧
    receiving.dataHalf (receiving.regIn 2#4 12#4 + 0x40#32 + 2#32 * receiving.reg 2#4) = some 2#16 ∧
    receiving.dataHalf (receiving.regIn 2#4 12#4 + 0x20#32 + 2#32 * receiving.reg 2#4) = some 6#16 ∧
    0x600 + asyncRingBytes receiving.params = 0x168C ∧
    ((List.range 0x168C).all fun k => isPlain receiving.params
      (programAddr (receiving.regIn 1#4 5#4 + BitVec.ofNat 32 k))) = true := by
  decide +kernel

/-- With TAM on for all ports, for port 3 and for port 1: both ports, port 3, none (R371). -/
theorem test_sbod_tam : pendingPorts.outputPorts [0x9000#16] = [0, 3] ∧
    (pendingPorts.setRegIn 3#4 15#4 0xFFFF1000#32).outputPorts [0x9000#16] = [3] ∧
    (pendingPorts.setRegIn 3#4 15#4 0xFFFF4000#32).outputPorts [0x9000#16] = [] := by decide +kernel

/-- The character begins at LCTIME if that is RGX5, RGX5 + F5 or RGX5 + 2 F5, else at RGX5 (R372). -/
theorem test_xmit_start : (sending 0#16 0#16).ringStart = 0x2B6 ∧
    charDelay paramsAtReset true 0x2B6 0x2B6#16 = 0 ∧ charDelay paramsAtReset true 0x2B6 0x2F2#16 = 0x3C ∧
    charDelay paramsAtReset true 0x2B6 0x32E#16 = 0x78 ∧ charDelay paramsAtReset true 0x2B6 0x36A#16 = 0 ∧
    charDelay paramsAtReset true 0x1050 0#16 = 0x3C := by decide +kernel

/-- The letter A, 41, from the right, has the bauds 0 10000010 1; 55 changes the line ten times (R372). -/
theorem test_xmit_edges : charEdges (charBauds true 0x41#8) = [0, 1, 2, 7, 8, 9] ∧
    charEdges (charBauds true 0x55#8) = List.range 10 ∧ charEdges (charBauds false 0x7F#8) = [0, 2] ∧
    charOf true ((charBauds true 0x41#8).drop 1) = 0x41#8 ∧
    charOf false ((charBauds false 0x41#8).drop 1) = 0x41#8 := by decide +kernel

/-- Its transitions, half a frame of 6 bytes apart, from the frame at 0x2B8 in the ring at 0x10600; with a width
of 8 bauds the last two are past the end (R402, R405). -/
theorem test_xmit_cells :
    ((sending 0#16 0#16).transitions 0 0x2B6 0x3C 6 false (charBauds true 0x41#8)).map (·.1) =
      [0x108B8#32, 0x108BE#32, 0x108C4#32, 0x108E2#32, 0x108E8#32, 0x108EE#32] ∧
    ((sending 0#16 0#16).transitions 0 0x2B6 0x30 6 false (charBauds true 0x41#8)).map (·.1) =
      [0x108B8#32, 0x108BE#32, 0x108C4#32, 0x108E2#32] := by decide +kernel

/-- The samples of a character whose start-baud was found at the beginning of the ring (R374, R405). -/
theorem test_gchar_cells :
    ((sending 0#16 0#16).setRegIn 1#4 3#4 0xFFFFEF74#32).sampleCells false 0 8 6 =
      [0x10608#32, 0x1060E#32, 0x10614#32, 0x1061A#32, 0x10620#32, 0x10626#32, 0x1062C#32, 0x10632#32,
        0x10638#32] ∧
    ((sending 0#16 0#16).setRegIn 1#4 3#4 0xFFFFEF74#32).sampleCells true 0 8 6 =
      [0x10606#32, 0x1060C#32, 0x10612#32, 0x10618#32, 0x1061E#32, 0x10624#32, 0x1062A#32, 0x10630#32,
        0x10636#32] := by decide +kernel

/-- TAM of port 3 of the first of two groups is bit 19 of register 14 of set 3 (R400, R401). -/
theorem test_xmit_tam : tamRegister { paramsAtReset with asyncGroups := 2 } 0 = 14#4 ∧
    tamOff 3 0xFFFFFFFF#32 = 0xFFFFEFFF#32 := by decide +kernel

/-- Registers for SCAN R7,R9, ALIGN and CKSUM R4,R2. -/
def syncState (lead count sector : Word) : State :=
  given 0x100#20 0#16 [(0#4, 7#4, lead), (0#4, 8#4, sector), (0#4, 9#4, 0x1000#32), (0#4, 0#4, count),
    (0#4, 1#4, 2#32), (0#4, 2#4, 0x2000#32)] [(0x10FE#20, 0x41FF#16)]

/-- Every byte of a ring at 0x1000, and every halfword of a block at 0x2000, can be read. -/
def ringReadable (s : State) : Bool :=
  (List.range 256).all (fun k => (s.dataByte (0x1000#32 + BitVec.ofNat 32 k)).isSome) &&
    (List.range 64).all (fun k => (s.dataHalf (0x2000#32 + BitVec.ofNat 32 (2 * k))).isSome)

/-- The lead pointer 0x0E or 0x0F: 15 or 16 bytes before it is the trailing pointer 0xFF, whose entry is
marking; the one after is not. -/
theorem witness_SyncCompletes : (syncState 0x0E#32 0#32 0xFFFFFFFF#32).psw.rp = false ∧
    (syncState 0x0E#32 0#32 0xFFFFFFFF#32).params.microcode = .s18 ∧
    (syncState 0x0F#32 0#32 0xFFFFFFFF#32).reg 7#4 = 0x0F#32 ∧
    (syncState 0x0F#32 0#32 0xFFFFFFFF#32).reg (7#4 + 1#4) = 0xFFFFFFFF#32 ∧
    (0x0E + 256 - (0xFFFFFFFF#32 : Word).toNat % 256) % 256 = 15 ∧
    (0x0F + 256 - (0xFFFFFFFF#32 : Word).toNat % 256) % 256 = 16 ∧
    (syncState 0x0F#32 0#32 0xFFFFFFFF#32).reg 9#4 = 0x1000#32 ∧
    (syncState 0x0F#32 0#32 0xFFFFFFFF#32).dataByte 0x1000#32 = some 0#8 ∧
    (syncState 0#32 0#32 0#32).reg 2#4 = 0x2000#32 ∧
    ringReadable (syncState 0x0F#32 0#32 0xFFFFFFFF#32) = true := by decide +kernel

/-- Sector addresses of either sign, and byte counts at the bounds. -/
theorem witness_SyncCompletes_counts : ((syncState 0#32 0#32 0xFFFFFFFF#32).reg 8#4).toInt < 0 ∧
    0 ≤ ((syncState 0#32 0#32 0x3000#32).reg 8#4).toInt ∧
    (syncState 0#32 0xFFFFFFBE#32 0#32).reg 0#4 = 0xFFFFFFBE#32 ∧
    ((0xFFFFFFBE#32 : Word).toInt % 2 = 0 ∧ (0xFFFFFFBE#32 : Word).toInt < -0x40) ∧
    ((0xFFFFFFC0#32 : Word).toInt % 2 = 0 ∧ -0x40 ≤ (0xFFFFFFC0#32 : Word).toInt) ∧
    -0x80 ≤ (0xFFFFFF80#32 : Word).toInt := by decide +kernel

/-- ALIGN's sector of two halfwords at 0x3000 in main memory. -/
theorem witness_SyncCompletes_sector : ∀ k, k < ((syncState 0#32 0#32 0x3000#32).reg 1#4).toNat →
    (syncState 0#32 0#32 0x3000#32).StoresTo
      ((syncState 0#32 0#32 0x3000#32).reg 8#4 + BitVec.ofNat 32 (2 * k)) (BitVec.ofNat 20 (0x3000 + 2 * k)) := by
  intro k hk
  have : k < 2 := hk
  interval_cases k <;> exact ⟨by rfl, by decide +kernel⟩

/-- In-line data of a GCI or WCI R5,R1 at 0x100: two buffers, whose arrays of pointers begin at 0x400. -/
def bufferState (index : Word) (pointer : Half) : State :=
  given 0x100#20 0#16 [(0#4, 1#4, index), (0#4, 5#4, 0x58#32)] [(0x102#20, 0x0008#16),
    (0x104#20, 0x0010#16), (0x106#20, 0x0100#16), (0x108#20, 0x0020#16), (0x10A#20, 0x0030#16),
    (0x10C#20, 0x0040#16), (0x402#20, pointer), (0x40A#20, 0x0817#16), (0x80E#20, 0x4142#16)]

/-- The six in-line halfwords can be read and are even. -/
theorem witness_BufferletCompletes : (bufferState 0#32 0x80F#16).psw.rp = false ∧
    (bufferState 0#32 0x80F#16).params.microcode ≠ .belowS15 ∧
    (bufferState 0#32 0x80F#16).pc.getLsbD 0 = false ∧
    ((List.range 6).all fun k => ((bufferState 0#32 0x80F#16).dataHalf
      (pcImage (bufferState 0#32 0x80F#16).pc + BitVec.ofNat 32 (2 * (k + 1)))).any
        fun h => !h.getLsbD 0) = true ∧
    (bufferState 0#32 0x80F#16).dataHalf (pcImage (bufferState 0#32 0x80F#16).pc + 2#32) = some 8#16 := by
  decide +kernel

/-- A bad index, an empty buffer, a pointer at the end of a bufferlet and one that is not. -/
theorem witness_BufferletCompletes_pointers :
    (8#16 : Half).toNat ≤ ((bufferState 8#32 0x80F#16).reg 1#4).toNat ∧
    ((bufferState 4#32 0x80F#16).reg 1#4).toNat < (8#16 : Half).toNat ∧
    (bufferState 4#32 0x80F#16).dataFull 0x404#32 = some 0#32 ∧
    (bufferState 0#32 0x80F#16).dataFull (BitVec.ofNat 32 (4 * (0x100#16 : Half).toNat) +
      (bufferState 0#32 0x80F#16).reg 1#4) = some 0x80F#32 ∧
    (bufferState 0#32 0x80F#16).dataFull (0x400#32 + (8#16 : Half).setWidth 32) = some 0x817#32 ∧
    (bufferState 0#32 0x80F#16).mem.wf = true ∧
    ([0x400#20, 0x402#20, 0x80E#20, 0x810#20].all fun a =>
      isPlain (bufferState 0#32 0x80F#16).params a) = true ∧
    (bufferState 0#32 0x80F#16).dataByte 0x80F#32 = some 0x42#8 ∧ (0x80F + 1) % 16 = 0 ∧
    (bufferState 0#32 0x80E#16).dataByte 0x80E#32 = some 0x41#8 ∧ (0x80E + 1) % 16 ≠ 0 := by decide +kernel

/-- RTD or RMA R5,R1 at 0x100 with a count: `A`, `B`, `C` at 0x900 and at 0x80D, `A` and code 3 at 0x910 and
at 0x81D; registers 12, 3 and 5 are given. -/
def moving (count record buffer held : Word) : State :=
  given 0x100#20 0#16 [(0#4, 1#4, count), (0#4, 12#4, record), (0#4, 3#4, buffer), (0#4, 5#4, held)]
    [(0x102#20, 0x0010#16), (0x104#20, 0x0020#16), (0x106#20, 0x0030#16), (0x108#20, 0x0040#16),
      (0x10A#20, 0x0050#16), (0x80C#20, 0x7741#16), (0x80E#20, 0x4243#16), (0x81C#20, 0x7741#16),
      (0x81E#20, 0x0300#16), (0x900#20, 0x4142#16), (0x902#20, 0x4300#16), (0x910#20, 0x4103#16)]

/-- The characters of `moving`, with `x` as the second. -/
def letters (x : Byte) (k : Nat) : Byte := if k = 0 then 0x41#8 else if k = 1 then x else 0x43#8

/-- The parts of Copyable that concern one character, to be computed. -/
def movable (s : State) (rtd : Bool) (b : Nat → Byte) (c k : Nat) : Bool :=
  let place := evenAddr (programAddr (s.copyTo rtd k))
  decide ((s.bufferAt rtd k).toNat % 16 ≠ 0) && s.dataByte (s.copyFrom rtd k) == some (b k) &&
    isPlain s.params place &&
    (List.range c).all (fun j => evenAddr (programAddr (s.copyFrom rtd j)) != place) &&
    (List.range 7).all fun j => evenAddr (programAddr (pcImage s.pc + BitVec.ofNat 32 (2 * j))) != place

theorem copyable_of {s : State} {rtd : Bool} {b : Nat → Byte} {c : Nat}
    (h : (List.range c).all (movable s rtd b c) = true) : s.Copyable rtd b c := by
  intro k hk
  have := List.all_eq_true.1 h k (List.mem_range.2 hk)
  simp only [movable, Bool.and_eq_true, decide_eq_true_eq, beq_iff_eq, bne_iff_ne, List.all_eq_true,
    List.mem_range] at this
  exact ⟨this.1.1.1.1, this.1.1.1.2, this.1.1.2, this.1.2, fun j _ hj => this.2 j (by omega)⟩

/-- RTD: all of two characters and of three, the third the last of the bufferlet; three of four; the second
special. -/
theorem witness_BufferletCompletes_rtd :
    (moving 2#32 0x900#32 0x82C#32 0#32).Copyable true (letters 0x42#8) 2 ∧
    (moving 3#32 0x900#32 0x82C#32 0#32).Copyable true (letters 0x42#8) 3 ∧
    (moving 4#32 0x900#32 0x82C#32 0#32).Copyable true (letters 0x42#8) 3 ∧
    (moving 2#32 0x910#32 0x83C#32 0#32).Copyable true (letters 3#8) (1 + 1) :=
  ⟨copyable_of (by decide +kernel), copyable_of (by decide +kernel), copyable_of (by decide +kernel),
    copyable_of (by decide +kernel)⟩

/-- The counts, codes and ends of these. -/
theorem witness_BufferletCompletes_ends :
    ((moving 2#32 0x900#32 0x82C#32 0#32).reg 1#4).toNat = 2 ∧
    ((moving 4#32 0x900#32 0x82C#32 0#32).reg 1#4).toNat = 4 ∧
    (moving 4#32 0x900#32 0x82C#32 0#32).mem.wf = true ∧
    ((moving 4#32 0x900#32 0x82C#32 0#32).bufferAt true 3).toNat % 16 = 0 ∧
    ((moving 2#32 0x900#32 0x82C#32 0#32).bufferAt true 2).toNat % 16 ≠ 0 ∧
    ((moving 4#32 0x8FF#32 0x80D#32 0#32).bufferAt false 3).toNat % 16 = 0 ∧
    ((List.range 3).all fun k => decide (4 ≤ (letters 0x42#8 k).toNat)) = true ∧
    (letters 3#8 1).toNat < 4 := by decide +kernel

/-- RMA, with the current halfwords in R1. -/
theorem witness_BufferletCompletes_rma :
    (moving 2#32 0x8FF#32 0x80D#32 0x41427741#32).Copyable false (letters 0x42#8) 2 ∧
    (moving 4#32 0x8FF#32 0x80D#32 0x41427741#32).Copyable false (letters 0x42#8) 3 ∧
    (moving 4#32 0x8FF#32 0x80D#32 0x41427741#32).CurrentHalves 5#4 ∧
    (moving 2#32 0x90F#32 0x81D#32 0x41037741#32).Copyable false (letters 3#8) (1 + 1) ∧
    (moving 2#32 0x90F#32 0x81D#32 0x41037741#32).CurrentHalves 5#4 := by
  refine ⟨copyable_of ?_, copyable_of ?_, ⟨?_, ?_⟩, copyable_of ?_, ⟨?_, ?_⟩⟩ <;> decide +kernel

/-- RTD2 stores `A` and the character of code 3, does not count it, and goes to CHAR3, 0x50 on (R392). -/
theorem test_rtd_char3 :
    yields (moving 2#32 0x910#32 0x83C#32 0#32) [0x3C51#16]
      (fun t => t.pc == 0x150#20 && t.reg 1#4 == 1#32 && t.mem.half 0x83C#20 == 0x0041#16 &&
        t.mem.half 0x83E#20 == 0x0300#16 && t.reg 3#4 == 0x83E#32) = true := by decide +kernel

/-- RMA moves `A`, `B`, `C` to 0x900 up to the end of the bufferlet, from R1's halfwords or from memory
(R389, R396). -/
theorem test_rma_next : ([none, some 0x77007741#32].all fun held =>
    match moveRecord false 4 held 0x8FF#32 0x80D#32 ((moving 4#32 0#32 0#32 0#32).setMem
      (((moving 4#32 0#32 0#32 0#32).mem.setHalf 0x900#20 0x7700#16).setHalf 0x902#20 0#16)) with
    | .ok m t => m == ⟨1, 1, 0x902#32, 0x810#32⟩ && t.mem.half 0x900#20 == 0x4142#16 &&
      t.mem.half 0x902#20 == 0x4300#16
    | _ => false) = true := by decide +kernel

/-- RTD2 at the end of the bufferlet goes to NEXT, 0x10 on, with one character left (R392, R396). -/
theorem test_rtd_next :
    yields (moving 4#32 0x900#32 0x82C#32 0#32) [0x3C51#16]
      (fun t => t.pc == 0x110#20 && t.reg 1#4 == 1#32 && t.reg 3#4 == 0x830#32 &&
        t.mem.half 0x82C#20 == 0x0041#16 && t.mem.half 0x82E#20 == 0x4243#16) = true := by decide +kernel

/-- WCI with a bad index goes to 0x100 + 0x10 and stores nothing (R387). -/
theorem test_wci_error :
    yields (bufferState 8#32 0x80F#16) [0x3951#16] (fun t => t.pc == 0x110#20 &&
      t.mem == (bufferState 8#32 0x80F#16).mem) = true := by decide +kernel

/-- WCI of an empty buffer goes to FIRST, 0x100 + 0x40 - 0x10 (R387). -/
theorem test_wci_first :
    yields (bufferState 4#32 0x80F#16) [0x3951#16] (fun t => t.pc == 0x130#20) = true := by decide +kernel

/-- The console's "single" condition stops a machine that has nothing else to take (R47, log 49). -/
theorem test_single_step :
    takePending { State.reset with pend := { State.reset.pend with single := true } } =
      some (.refused .singleStep) ∧
    takePending State.reset = none := ⟨rfl, rfl⟩

/-- A trailing pointer 15 bytes behind is the end of the search (R381). -/
theorem test_scan_ends (halves : Bool) (s : State) :
    scanRing halves 0x1000#32 0x0E#32 256 0xFFFFFFFF#32 s = .ok false s := by
  rw [scanRing, if_pos (by decide)]

end Sys2Proof.Tests
end

/-! # What instructions leave to the environment

Every instruction but those of I/O changes only what is inside the Engine: registers, program counter, PSW,
memory, MAC descriptors and status, and the MAC's pending conditions. `State.StaysInside` is that frame. It is
proved once for each state operation, then for the bodies that instructions share, then for every instruction;
the I/O instructions, which reach the display or the bus, keep the weaker frame `State.SameOutside`. -/

namespace Sys2Proof.Machine

/-! ## The frame -/

/-- Beside what belongs to the environment, the display and the bus are as before: what every instruction but
those of I/O leaves alone (R47, R63, R350). -/
def State.StaysInside (s t : State) : Prop :=
  s.SameOutside t ∧ t.displayLeft = s.displayLeft ∧ t.displayRight = s.displayRight ∧
    t.busIn = s.busIn ∧ t.busOut = s.busOut

/-- An operation that has a value stays inside. -/
def State.RunsInside {α : Type} (s : State) (r : Res α) : Prop :=
  ∀ a t, r = .ok a t → s.StaysInside t

/-- An instruction that answers a next state stays inside. -/
def State.EndsInside (s : State) (o : Out) : Prop := ∀ t, o = .next t → s.StaysInside t

theorem State.SameOutside.trans {s t u : State} (h : s.SameOutside t) (k : t.SameOutside u) :
    s.SameOutside u := by
  unfold State.SameOutside at *
  simp only [k, h, and_self]

@[simp] theorem State.StaysInside.refl (s : State) : s.StaysInside s := by
  simp only [State.StaysInside, State.SameOutside, and_self]

theorem State.StaysInside.trans {s t u : State} (h : s.StaysInside t) (k : t.StaysInside u) :
    s.StaysInside u := by
  obtain ⟨ho, hl, hr, hi, hb⟩ := h
  obtain ⟨ko, kl, kr, ki, kb⟩ := k
  exact ⟨ho.trans ko, kl.trans hl, kr.trans hr, ki.trans hi, kb.trans hb⟩

theorem State.AfterAccess.inside {s t : State} (h : s.AfterAccess t) : s.StaysInside t := by
  rw [h.1]
  exact .refl s

theorem State.AfterRead.inside {s t : State} (h : s.AfterRead t) : s.StaysInside t := h.access.inside

theorem State.AfterRearm.inside {s t : State} (h : s.AfterRearm t) : s.StaysInside t := h.access.inside

/-! ## What writes inside the Engine -/

section Writes

variable {s t : State}

@[simp] theorem inside_setPc (a : Addr) : s.StaysInside (t.setPc a) ↔ s.StaysInside t := .rfl
@[simp] theorem inside_setPsw (q : Psw) : s.StaysInside (t.setPsw q) ↔ s.StaysInside t := .rfl
@[simp] theorem inside_setFlags (f : Flags) : s.StaysInside (t.setFlags f) ↔ s.StaysInside t := .rfl
@[simp] theorem inside_setMacPending (b : Bool) : s.StaysInside (t.setMacPending b) ↔ s.StaysInside t := .rfl
@[simp] theorem inside_setMacWaiting (b : Bool) : s.StaysInside (t.setMacWaiting b) ↔ s.StaysInside t := .rfl
@[simp] theorem inside_begin : s.StaysInside t.begin ↔ s.StaysInside t := .rfl
@[simp] theorem inside_tick : s.StaysInside t.tick ↔ s.StaysInside t := .rfl
@[simp] theorem inside_scribble : s.StaysInside t.scribble ↔ s.StaysInside t := .rfl
@[simp] theorem inside_openHalf (ea : Word) : s.StaysInside (t.openHalf ea) ↔ s.StaysInside t := .rfl
@[simp] theorem inside_setRegIn (k : Nib) (r : Reg) (v : Word) :
    s.StaysInside (t.setRegIn k r v) ↔ s.StaysInside t := .rfl
@[simp] theorem inside_setReg (r : Reg) (v : Word) : s.StaysInside (t.setReg r v) ↔ s.StaysInside t := .rfl
@[simp] theorem inside_freeReg (r : Reg) : s.StaysInside (t.freeReg r) ↔ s.StaysInside t := .rfl
@[simp] theorem inside_freeRegs (picked : Nat → Bool) :
    s.StaysInside (t.freeRegs picked) ↔ s.StaysInside t := .rfl
@[simp] theorem inside_freeCc : s.StaysInside t.freeCc ↔ s.StaysInside t := .rfl
@[simp] theorem inside_setPcEither (a b : Addr) : s.StaysInside (t.setPcEither a b) ↔ s.StaysInside t := .rfl
@[simp] theorem inside_advanceSbx : s.StaysInside t.advanceSbx ↔ s.StaysInside t := .rfl

@[simp] theorem inside_writeReg (r : Reg) (v : Word) :
    s.StaysInside (t.writeReg r v) ↔ s.StaysInside t := by
  unfold State.writeReg
  split <;> simp

@[simp] theorem inside_writeFlags (f : Flags) : s.StaysInside (t.writeFlags f) ↔ s.StaysInside t := by
  unfold State.writeFlags
  split <;> simp

@[simp] theorem inside_loadPsw (q : Psw) : s.StaysInside (t.loadPsw q) ↔ s.StaysInside t := by
  unfold State.loadPsw
  split <;> simp

@[simp] theorem inside_writeTrace (b : Bool) : s.StaysInside (t.writeTrace b) ↔ s.StaysInside t := by
  unfold State.writeTrace
  split <;> simp

@[simp] theorem inside_raiseMac (c : MacCause) : s.StaysInside (t.raiseMac c) ↔ s.StaysInside t := by
  unfold State.raiseMac
  split <;> exact .rfl

@[simp] theorem inside_mayFault : s.StaysInside t.mayFault ↔ s.StaysInside t := by
  unfold State.mayFault
  split <;> simp

@[simp] theorem inside_setSba (port : Nat) (on : Bool) :
    s.StaysInside (t.setSba port on) ↔ s.StaysInside t := by
  unfold State.setSba
  split <;> simp

@[simp] theorem inside_loadFlags (v : Word) : s.StaysInside (t.loadFlags v) ↔ s.StaysInside t := by
  simp [State.loadFlags]

@[simp] theorem inside_bitResult (h : Half) (d : Word) :
    s.StaysInside (t.bitResult h d) ↔ s.StaysInside t := by
  simp [State.bitResult]

@[simp] theorem inside_shiftFlags {w : Nat} (last : Option Bool) (tested : BitVec w) :
    s.StaysInside (t.shiftFlags last tested) ↔ s.StaysInside t := by
  cases last <;> simp [State.shiftFlags]

@[simp] theorem inside_halfShiftFlags (last : Option Bool) (h : Half) (w : Word) :
    s.StaysInside (t.halfShiftFlags last h w) ↔ s.StaysInside t := by
  unfold State.halfShiftFlags
  split <;> simp

@[simp] theorem inside_writeDivision (r1 : Reg) (q : Option (Word × Word)) :
    s.StaysInside (t.writeDivision r1 q) ↔ s.StaysInside t := by
  cases q <;> simp [State.writeDivision]

@[simp] theorem inside_freeEach (rs : List Reg) :
    s.StaysInside (rs.foldl State.freeReg t) ↔ s.StaysInside t := by
  induction rs generalizing t with
  | nil => rfl
  | cons r rs ih => rw [List.foldl_cons, ih, inside_freeReg]

@[simp] theorem inside_undescribed (rs : List Reg) : s.StaysInside (t.undescribed rs) ↔ s.StaysInside t := by
  simp [State.undescribed]

@[simp] theorem inside_undescribedRead (rs : List Reg) :
    s.StaysInside (t.undescribedRead rs) ↔ s.StaysInside t := by
  simp [State.undescribedRead]

@[simp] theorem inside_asyncBody (rs : List Reg) : s.StaysInside (t.asyncBody rs) ↔ s.StaysInside t := by
  simp [State.asyncBody]

@[simp] theorem inside_foundPort (port : Nat) : s.StaysInside (t.foundPort port) ↔ s.StaysInside t := by
  simp [State.foundPort]

@[simp] theorem inside_sbodBody (r1 : Reg) : s.StaysInside (t.sbodBody r1) ↔ s.StaysInside t := by
  simp [State.sbodBody]

@[simp] theorem inside_sbodWorks (r1 : Reg) : s.StaysInside (t.sbodWorks r1) ↔ s.StaysInside t := by
  simp [State.sbodWorks]

@[simp] theorem inside_sbodInput (r1 : Reg) : s.StaysInside (t.sbodInput r1) ↔ s.StaysInside t := by
  simp [State.sbodInput]

@[simp] theorem inside_sbodOutput (r1 : Reg) (ports : List Nat) :
    s.StaysInside (t.sbodOutput r1 ports) ↔ s.StaysInside t := by
  unfold State.sbodOutput
  split <;> simp

@[simp] theorem inside_cksumAdvance (r2 : Reg) (bytes : Nat) :
    s.StaysInside (t.cksumAdvance r2 bytes) ↔ s.StaysInside t := by
  simp only [State.cksumAdvance]
  split <;> simp

@[simp] theorem inside_afterCopy (r1 r2 : Reg) : s.StaysInside (t.afterCopy r1 r2) ↔ s.StaysInside t := .rfl

@[simp] theorem inside_afterArand (r1 : Reg) : s.StaysInside (t.afterArand r1) ↔ s.StaysInside t := .rfl

@[simp] theorem inside_afterMove (r1 r2 : Reg) (m : Moved) :
    s.StaysInside (t.afterMove r1 r2 m) ↔ s.StaysInside t := by
  simp [State.afterMove]

end Writes

/-! ## Sequencing -/

section Sequencing

variable {α β : Type} {s t u : State}

@[simp] theorem runsInside_ok {a : α} : s.RunsInside (.ok a t) ↔ s.StaysInside t := by
  simp [State.RunsInside]

@[simp] theorem runsInside_refused {f : Refusal} : s.RunsInside (.refused f : Res α) := by
  simp [State.RunsInside]

/-- An operation begun after a change inside the Engine. -/
theorem State.RunsInside.after {r : Res α} (h : t.RunsInside r) (hs : s.StaysInside t) : s.RunsInside r :=
  fun a u e => hs.trans (h a u e)

/-- Two operations, the second begun where the first has left. -/
theorem State.RunsInside.bind {r : Res α} {k : α → State → Res β} (hr : s.RunsInside r)
    (hk : ∀ a (t : State), t.RunsInside (k a t)) : s.RunsInside (r.bind k) := by
  intro b u e
  obtain ⟨a, t, h1, h2⟩ := Res.bind_eq_ok.1 e
  exact (hr a t h1).trans (hk a t b u h2)

/-- An operation after which the state is only written. -/
theorem State.RunsInside.andThen {r : Res α} {f : α → State → β} {g : α → State → State}
    (hr : s.RunsInside r) (hg : ∀ a (t : State), t.StaysInside (g a t)) :
    s.RunsInside (r.bind fun a t => .ok (f a t) (g a t)) :=
  hr.bind fun a t => runsInside_ok.2 (hg a t)

theorem State.RunsInside.out {r : Res Unit} (h : s.RunsInside r) : s.EndsInside r.out :=
  fun t e => h () t (Res.out_eq_next.1 e)

end Sequencing

/-! ## Memory -/

section Memory

variable (s : State)

theorem absReadHalf_inside (a : Addr) : s.RunsInside (absReadHalf a s) :=
  fun _ _ e => (absReadHalf_after e).inside

theorem absReadFull_inside (a : Addr) : s.RunsInside (absReadFull a s) :=
  (absReadHalf_inside s _).bind fun _ t => (absReadHalf_inside t _).andThen fun _ u => .refl u

theorem readHalf_inside (ea : Word) : s.RunsInside (readHalf ea s) :=
  fun _ _ e => (readHalf_after e).inside

theorem readFull_inside (ea : Word) : s.RunsInside (readFull ea s) :=
  fun _ _ e => (readFull_after e).inside

theorem readByte_inside (ea : Word) : s.RunsInside (readByte ea s) :=
  fun _ _ e => (readByte_after e).inside

theorem writeHalf_inside (ea : Word) (h : Half) : s.RunsInside (writeHalf ea h s) :=
  fun _ _ e => (writeHalf_after e).inside

theorem writeFull_inside (ea v : Word) : s.RunsInside (writeFull ea v s) :=
  fun _ _ e => (writeFull_after e).inside

theorem writeByte_inside (ea : Word) (b : Byte) : s.RunsInside (writeByte ea b s) :=
  fun _ _ e => (writeByte_after e).inside

theorem testAndSetAt_inside (va : Addr) : s.RunsInside (testAndSetAt va s) :=
  fun _ _ e => (testAndSetAt_after e).inside

theorem readHalves_inside (l : List Word) : s.RunsInside (readHalves l s) :=
  fun _ _ e => (readHalves_after e).inside

theorem copyEach_inside (open_ : Bool) (l : List (Word × Word)) : s.RunsInside (copyEach open_ l s) :=
  fun _ _ e => (copyEach_after e).inside

theorem scanRing_inside (halves : Bool) (ring lead : Word) (n : Nat) (trail : Word) :
    s.RunsInside (scanRing halves ring lead n trail s) :=
  fun _ _ e => (scanRing_after e).inside

theorem writeBit_inside (ea : Word) (k : Nat) (b : Bool) : s.RunsInside (writeBit ea k b s) :=
  fun _ _ e => (writeBit_after e).inside

theorem writeBits_inside (k : Nat) (l : List (Word × Bool)) : s.RunsInside (writeBits k l s) :=
  fun _ _ e => (writeBits_after e).inside

theorem linkPort_inside (port : Nat) (length : Half) : s.RunsInside (linkPort port length s) :=
  fun _ _ e => (linkPort_after e).inside

theorem rearm_inside (index : Nat) : s.RunsInside (rearm index s) :=
  fun _ _ e => (rearm_after e).inside

theorem moveRecord_inside (toBuffer : Bool) (n : Nat) (held : Option Word) (record buffer : Word) :
    s.RunsInside (moveRecord toBuffer n held record buffer s) :=
  fun _ _ e => (moveRecord_after e).inside

theorem readPswAndPc_inside (ea : Word) : s.RunsInside (readPswAndPc ea s) :=
  (readFull_inside s _).bind fun _ t => (readFull_inside t _).andThen fun _ u => .refl u

theorem turnTamOff_inside (port : Nat) : s.RunsInside (turnTamOff port s) :=
  ((writeBit_inside s.tick _ _ _).after (by simp)).andThen (by simp)

theorem scanSteps_inside (after : Bool) (n : Nat) : s.RunsInside (scanSteps after n s) := by
  induction n generalizing s with
  | zero => exact runsInside_ok.2 (.refl s)
  | succ n ih => exact (rearm_inside s _).bind fun _ t => (ih t.advanceSbx).after (by simp)

theorem loadMultiple_inside (n : Nat) (ea : Word) (r : Reg) : s.RunsInside (loadMultiple n ea r s) := by
  induction n generalizing s ea r with
  | zero => exact runsInside_ok.2 (.refl s)
  | succ n ih => exact (readFull_inside s _).bind fun v t => (ih (t.writeReg r v) _ _).after (by simp)

theorem storeMultiple_inside (n : Nat) (ea : Word) (r : Reg) : s.RunsInside (storeMultiple n ea r s) := by
  induction n generalizing s ea r with
  | zero => exact runsInside_ok.2 (.refl s)
  | succ n ih => exact (writeFull_inside s _ _).bind fun _ t => ih t _ _

theorem writeFreeHalves_inside (l : List Word) : s.RunsInside (writeFreeHalves l s) := by
  induction l generalizing s with
  | nil => exact runsInside_ok.2 (.refl s)
  | cons ea rest ih =>
    exact ((writeHalf_inside s.tick _ _).after (by simp)).bind fun _ t => ih t

theorem searchArrays_inside (n : Nat) (p q : Word) : s.RunsInside (searchArrays n p q s) := by
  induction n generalizing s p q with
  | zero => exact runsInside_ok.2 (.refl s)
  | succ n ih =>
    refine (readHalf_inside s p).bind fun a t => (readHalf_inside t q).bind fun b u => ?_
    split
    · simp
    · split
      · exact ih u _ _
      · simp

theorem copyBlock_inside (down extra : Bool) (src dst : List Word) (before : Word) :
    s.RunsInside (copyBlock down extra src dst before s) := by
  unfold copyBlock
  split
  · refine (copyEach_inside s _ _).bind fun _ t => ?_
    split
    · exact (readHalf_inside t _).andThen fun _ u => .refl u
    · simp
  · exact (readHalf_inside s _).bind fun _ t => copyEach_inside t _ _

end Memory

/-! ## Operands -/

section Operands

theorem operandOf_inside (f : State → Word) (s : State) : s.RunsInside (operandOf f s) :=
  runsInside_ok.2 (.refl s)

theorem operandFull_inside (rx : RxAddr) (s : State) : s.RunsInside (operandFull rx s) :=
  readFull_inside s _

theorem operandHalf_inside (rx : RxAddr) (s : State) : s.RunsInside (operandHalf rx s) :=
  (readHalf_inside s _).andThen fun _ t => .refl t

theorem operandHalfZero_inside (rx : RxAddr) (s : State) : s.RunsInside (operandHalfZero rx s) :=
  (readHalf_inside s _).andThen fun _ t => .refl t

theorem operandByte_inside (rx : RxAddr) (s : State) : s.RunsInside (operandByte rx s) :=
  (readByte_inside s _).andThen fun _ t => .refl t

theorem operandIo_inside (rx : RxAddr) (s : State) : s.RunsInside (operandIo rx s) :=
  (readHalf_inside s _).andThen fun _ t => .refl t

end Operands

/-! ## Transfers of control and exceptions -/

section Transfers

variable (s : State)

theorem enterAt_inside (a : Addr) : s.RunsInside (enterAt a s) := by
  intro _ t e
  rw [(enterAt_eq_ok.1 e).2]
  simp

theorem loadPc_inside (a : Addr) : s.RunsInside (loadPc a s) := by
  intro _ t e
  rcases loadPc_ok e with ⟨-, -, rfl⟩ | ⟨-, rfl⟩ <;> simp

theorem swapToRegisters_inside (pswAt pcAt saved : Addr) : s.RunsInside (swapToRegisters pswAt pcAt saved s) :=
  (absReadFull_inside s _).bind fun _ t => (absReadFull_inside t _).bind fun _ u =>
    (enterAt_inside _ _).after (by simp)

theorem takeIllegal_inside : s.EndsInside (takeIllegal s) := (swapToRegisters_inside s _ _ _).out

theorem takeMac_inside (saved : Addr) : s.EndsInside (takeMac saved s) :=
  ((swapToRegisters_inside _ _ _ _).after (by simp)).out

theorem jumpTo_inside (target : Addr) : s.RunsInside (jumpTo target s) := by
  unfold jumpTo
  split
  · simp
  split
  · exact (writeFull_inside s _ _).bind fun _ t => (writeFull_inside t _ _).bind fun _ u =>
      ((readFull_inside (u.writeTrace false) _).after (by simp)).bind fun w v => loadPc_inside v _
  · simp

theorem enterTimer_inside : s.RunsInside (enterTimer s) := (enterAt_inside _ _).after (by simp)

theorem loadPswAndPc_inside (pswWord pcWord : Word) : s.RunsInside (loadPswAndPc pswWord pcWord s) := by
  refine ((loadPc_inside _ _).after (by simp)).bind fun _ t => ?_
  split
  · exact enterTimer_inside t
  · simp

/-- The end of an instruction only works inside: after a MAC fault it is the MAC interrupt, taken or waiting. -/
theorem finish_next {a : Addr} {r : Res Unit} {t : State} (e : finish a r = .next t) :
    ∃ u, r = .ok () u ∧ u.StaysInside t := by
  obtain ⟨u, hr, ⟨-, rfl⟩ | ⟨-, he⟩⟩ := finish_eq_next.1 e
  · exact ⟨t, hr, .refl t⟩
  · refine ⟨u, hr, ?_⟩
    rcases endWithMac_eq_next.1 he with ⟨-, rfl⟩ | ⟨-, hm⟩
    · simp
    · exact takeMac_inside u _ t hm

/-- An instruction that does not transfer control adds nothing outside to its body. -/
theorem sequential_next {len : Nat} {body : State → Res Unit} {s t : State}
    (e : sequential len body s = .next t) : ∃ u, body s.begin = .ok () u ∧ u.StaysInside t := by
  obtain ⟨v, hv, ht⟩ := finish_next e
  obtain ⟨_, u, hu, hw⟩ := Res.bind_eq_ok.1 hv
  cases hw
  exact ⟨u, hu, .trans (by simp) ht⟩

/-- An instruction is illegal in user mode, or has its meaning (R455). -/
theorem privileged_next {meaning : State → Out} {s t : State} (e : privileged meaning s = .next t) :
    takeIllegal s = .next t ∨ meaning s = .next t := by
  unfold privileged at e
  split at e
  · exact .inl e
  · exact .inr e

end Transfers

/-! ## The shapes of instructions -/

section Shapes

variable {s : State}

theorem sequential_inside {len : Nat} {body : State → Res Unit} (hb : ∀ t : State, t.RunsInside (body t)) :
    s.EndsInside (sequential len body s) := by
  intro t e
  obtain ⟨u, hu, ht⟩ := sequential_next e
  exact (hb s.begin () u hu).trans ht

theorem transfer_inside {body : State → Res Unit} (hb : ∀ t : State, t.RunsInside (body t)) :
    s.EndsInside (transfer body s) := by
  intro t e
  obtain ⟨u, hu, ht⟩ := finish_next e
  exact (hb s.begin () u hu).trans ht

theorem privileged_inside {meaning : State → Out} (h : s.EndsInside (meaning s)) :
    s.EndsInside (privileged meaning s) :=
  fun t e => (privileged_next e).elim (takeIllegal_inside s t) (h t)

theorem sinceS15_inside {meaning : State → Out} (h : s.EndsInside (meaning s)) :
    s.EndsInside (sinceS15 meaning s) := by
  unfold sinceS15
  split
  · exact h
  · exact takeIllegal_inside s

theorem asyncOnly_inside {meaning : State → Out} (h : s.EndsInside (meaning s)) :
    s.EndsInside (asyncOnly meaning s) := by
  unfold asyncOnly
  split
  · exact h
  · exact takeIllegal_inside s

/-- An instruction that fetches its operand and then only writes registers and flags. -/
theorem operate_inside {α : Type} {len : Nat} {operand : State → Res α} {result : α → State → State}
    (ho : ∀ t : State, t.RunsInside (operand t)) (hw : ∀ v (t : State), t.StaysInside (result v t)) :
    s.EndsInside (sequential len (fun t => (operand t).bind fun v u => .ok () (result v u)) s) :=
  sequential_inside fun t => (ho t).andThen hw

section Operand

variable {len : Nat} {operand : State → Res Word} {r1 : Reg}

theorem load_inside (ho : ∀ t : State, t.RunsInside (operand t)) : s.EndsInside (load len operand r1 s) :=
  operate_inside ho (by simp)

theorem addTo_inside (ho : ∀ t : State, t.RunsInside (operand t)) : s.EndsInside (addTo len operand r1 s) :=
  operate_inside ho (by simp)

theorem subFrom_inside (ho : ∀ t : State, t.RunsInside (operand t)) :
    s.EndsInside (subFrom len operand r1 s) :=
  operate_inside ho (by simp)

theorem compareLogical_inside (ho : ∀ t : State, t.RunsInside (operand t)) :
    s.EndsInside (compareLogical len operand r1 s) :=
  operate_inside ho (by simp)

theorem compareSigned_inside (ho : ∀ t : State, t.RunsInside (operand t)) :
    s.EndsInside (compareSigned len operand r1 s) :=
  operate_inside ho (by simp)

theorem multiply_inside (ho : ∀ t : State, t.RunsInside (operand t)) :
    s.EndsInside (multiply len operand r1 s) :=
  operate_inside ho (by simp)

theorem multiplyHalf_inside (ho : ∀ t : State, t.RunsInside (operand t)) :
    s.EndsInside (multiplyHalf len operand r1 s) :=
  operate_inside ho (by simp)

theorem divide_inside (ho : ∀ t : State, t.RunsInside (operand t)) : s.EndsInside (divide len operand r1 s) :=
  operate_inside ho (by simp)

theorem divideByHalf_inside (ho : ∀ t : State, t.RunsInside (operand t)) :
    s.EndsInside (divideByHalf len operand r1 s) :=
  operate_inside ho (by simp)

theorem logical_inside {f : Word → Word → Word} (ho : ∀ t : State, t.RunsInside (operand t)) :
    s.EndsInside (logical f len operand r1 s) :=
  operate_inside ho (by simp)

theorem test_inside (ho : ∀ t : State, t.RunsInside (operand t)) : s.EndsInside (test len operand r1 s) :=
  operate_inside ho (by simp)

end Operand

section Shifts

variable {len : Nat} {count : State → Nat} {r1 : Reg}

theorem shiftFull_inside {one : Word → Bool × Word} : s.EndsInside (shiftFull one len count r1 s) :=
  sequential_inside (by simp)

theorem shiftHalf_inside {one : Half → Bool × Half} : s.EndsInside (shiftHalf one len count r1 s) :=
  sequential_inside (by simp)

theorem rotate_inside {one : Word → Bool × Word} : s.EndsInside (rotate one len count r1 s) :=
  sequential_inside (by simp)

end Shifts

theorem changeBit_inside {f : Half → Half → Half} {r1 : Reg} {rx : RxAddr} :
    s.EndsInside (changeBit f r1 rx s) :=
  sequential_inside fun t => (readHalf_inside t _).bind fun _ u =>
    (writeHalf_inside u _ _).andThen (by simp)

theorem jumpIf_inside {len : Nat} {taken : State → Bool} {target : State → Addr} :
    s.EndsInside (jumpIf len taken target s) := by
  refine transfer_inside fun t => ?_
  split
  · exact jumpTo_inside t _
  · simp

theorem jumpTrue_inside {mask : Nib} {len : Nat} {target : State → Addr} :
    s.EndsInside (jumpTrue mask len target s) := jumpIf_inside

theorem jumpFalse_inside {mask : Nib} {len : Nat} {target : State → Addr} :
    s.EndsInside (jumpFalse mask len target s) := jumpIf_inside

theorem jumpLink_inside {len : Nat} {r1 : Reg} {target : State → Addr} :
    s.EndsInside (jumpLink len r1 target s) :=
  transfer_inside fun _ => (jumpTo_inside _ _).after (by simp)

theorem jumpFirstOne_inside {w : Nat} {r1 : Reg} {n : Nib} {v : State → BitVec w} :
    s.EndsInside (jumpFirstOne r1 n v s) := by
  refine transfer_inside fun t => ?_
  split
  · simp
  · exact (jumpTo_inside _ _).after (by simp)

/-- LM and STM, whole or abandoned. -/
theorem multiple_inside {len n : Nat} {transfers : Nat → State → Res Unit}
    (h : ∀ k (t : State), t.RunsInside (transfers k t)) : s.EndsInside (multiple len n transfers s) := by
  refine transfer_inside fun t => ?_
  have whole : t.RunsInside ((transfers n t).bind fun _ u => .ok () (u.setPc (nextAddr s.pc len))) :=
    (h n t).andThen (by simp)
  dsimp only
  split
  · split
    · intro _ v e
      obtain ⟨_, u, hu, hv⟩ := Res.bind_eq_ok.1 e
      split at hv
      · exact whole _ _ hv
      · cases hv
        exact (h _ t () u hu).trans (by simp)
    · exact whole
  · exact whole

end Shapes

/-! ## The special instructions -/

section Special

variable {s : State} {r1 r2 : Reg}

theorem copyWhole_inside : s.RunsInside (copyWhole r1 r2 s) :=
  ((copyBlock_inside s.tick _ _ _ _ _).after (by simp)).andThen (by simp)

theorem copyPart_inside (k : Nat) : s.RunsInside (copyPart k r1 r2 s) := by
  unfold copyPart
  dsimp only
  split <;> exact ((copyBlock_inside s.tick _ _ _ _ _).after (by simp)).andThen (by simp)

theorem execCopy_inside : s.EndsInside (execCopy r1 r2 s) := by
  refine sinceS15_inside (transfer_inside fun t => ?_)
  dsimp only
  split
  · simp
  split
  · simp
  split
  · split
    · exact copyPart_inside _
    · exact copyWhole_inside
  · exact copyWhole_inside

theorem execArand_inside : s.EndsInside (execArand r1 r2 s) := by
  refine sinceS15_inside (transfer_inside fun t => ?_)
  dsimp only
  split
  · refine (searchArrays_inside t _ _ _).bind fun found u => ?_
    split
    · simp
    · cases found <;> simp
  · simp

theorem sbodOpen_inside (t : State) : t.RunsInside (sbodOpen r1 r2 t) := by
  unfold sbodOpen
  split
  · simp
  · refine ((readHalves_inside t.tick _).after (by simp)).bind fun hs v => ?_
    dsimp only
    split <;> simp

theorem sbodScan_inside (t : State) : t.RunsInside (sbodScan r1 r2 t) := by
  refine ((scanSteps_inside t.tick.tick _ _).after (by simp)).bind fun _ u => ?_
  split
  · exact sbodOpen_inside u
  split
  · simp
  · refine ((scanSteps_inside u.tick _ _).after (by simp)).bind fun _ v =>
      (readHalves_inside v _).bind fun hs w => ?_
    split
    · exact sbodOpen_inside w
    · simp

theorem execSbod_inside : s.EndsInside (execSbod r1 r2 s) := by
  refine asyncOnly_inside (transfer_inside fun t => ?_)
  split
  · exact sbodScan_inside t
  · exact sbodOpen_inside t

theorem transmit_inside (t : State) : t.RunsInside (transmit r1 r2 t) := by
  refine (readHalf_inside t _).bind fun lctime t1 => (readHalf_inside t1 _).bind fun w t2 =>
    (readHalf_inside t2 _).bind fun baud u => ?_
  refine ((writeBits_inside _ _ _).after (by simp)).bind fun _ x => ?_
  refine State.RunsInside.bind ?_ fun _ y => writeHalf_inside y _ _
  split
  · exact turnTamOff_inside x _
  · simp

theorem execXmit_inside : s.EndsInside (execXmit r1 r2 s) := by
  refine asyncOnly_inside (sequential_inside fun t => ?_)
  split
  · exact transmit_inside t
  · simp

theorem execSpm_inside : s.EndsInside (execSpm r1 r2 s) :=
  asyncOnly_inside (transfer_inside (by simp))

theorem receive_inside (t : State) : t.RunsInside (receive r1 r2 t) := by
  refine (readHalf_inside t _).bind fun length t1 => (readHalf_inside t1 _).bind fun center t2 =>
    (readHalf_inside t2 _).bind fun baud t3 => ?_
  refine ((readHalves_inside t3.tick _).after (by simp)).bind fun hs u =>
    (linkPort_inside u _ _).bind fun _ v => ?_
  dsimp only
  split <;> simp

theorem execGchar_inside : s.EndsInside (execGchar r1 r2 s) := by
  refine asyncOnly_inside (transfer_inside fun t => ?_)
  split
  · exact receive_inside t
  · simp

theorem execScan_inside : s.EndsInside (execScan r1 r2 s) := by
  refine sinceS15_inside (transfer_inside fun t => ?_)
  refine ((scanRing_inside t.tick _ _ _ _ _).after (by simp)).bind fun hit u => ?_
  dsimp only
  split <;> simp

theorem execAlign_inside : s.EndsInside (execAlign r1 r2 s) := by
  refine sinceS15_inside (operate_inside (fun t => ?_) (by simp))
  split
  · simp
  · exact writeFreeHalves_inside t _

theorem execCksum_inside : s.EndsInside (execCksum r1 r2 s) := by
  unfold execCksum
  split
  · refine transfer_inside fun t => (readHalves_inside t _).bind fun _ u => ?_
    dsimp only
    split <;> simp
  · exact takeIllegal_inside s

theorem inlineTarget_inside (a : Addr) (k : Nat) (t : State) : t.RunsInside (inlineTarget a k t) :=
  (readHalf_inside t _).andThen fun _ u => .refl u

theorem inlineError_inside (rs : List Reg) (t : State) : t.RunsInside (inlineError rs t) :=
  (inlineTarget_inside _ _ t).bind fun _ _ => (loadPc_inside _ _).after (by simp)

theorem gciNext_inside (a : Addr) (p be : Word) (t : State) : t.RunsInside (gciNext a p be t) := by
  have goes (k : Nat) : t.RunsInside (inlineTarget a k t.tick.tick) :=
    (inlineTarget_inside _ _ _).after (by simp)
  unfold gciNext
  dsimp only
  generalize (if t.freeBit then be == p else be == p + 1#32) = empty
  split
  · exact goes _
  split
  · exact goes 5
  · simp

theorem execGci_inside : s.EndsInside (execGci r1 r2 s) := by
  refine sinceS15_inside (transfer_inside fun t => (readHalf_inside t _).bind fun size u => ?_)
  dsimp only
  split
  · exact inlineError_inside _ u
  refine (readHalf_inside u _).bind fun quarter v => (readFull_inside v _).bind fun p w => ?_
  split
  · exact inlineError_inside _ w
  refine (readFull_inside w _).bind fun be x => (readByte_inside x _).bind fun b y =>
    (gciNext_inside _ _ _ y).bind fun onward z =>
      ((writeFull_inside _ _ _).after (by simp)).bind fun _ z' => ?_
  refine (loadPc_inside _ _).after ?_
  split <;> simp

theorem wciStore_inside (lastFilled : Bool) (be : Word) (b : Byte) (t : State) :
    t.RunsInside (wciStore lastFilled be b t) := by
  unfold wciStore
  split
  · split
    · simp
    · exact writeByte_inside t _ _
  · exact writeByte_inside t _ _

theorem execWci_inside : s.EndsInside (execWci r1 r2 s) := by
  refine sinceS15_inside (transfer_inside fun t => (readHalf_inside t _).bind fun size u => ?_)
  dsimp only
  split
  · exact inlineError_inside _ u
  refine (readHalf_inside u _).bind fun quarter v => (readFull_inside v _).bind fun be w => ?_
  split
  · exact (inlineTarget_inside _ _ w).bind fun _ _ => (loadPc_inside _ _).after (by simp)
  refine State.RunsInside.bind ?_ fun onward x =>
    ((wciStore_inside _ _ _ _).after (by simp)).bind fun _ y =>
      (writeFull_inside y _ _).bind fun _ _ => (loadPc_inside _ _).after (by simp)
  split
  · exact inlineTarget_inside _ _ w
  · simp

theorem execCbct_inside : s.EndsInside (execCbct r1 r2 s) :=
  sinceS15_inside (sequential_inside (by simp))

theorem recordCopy_inside (toBuffer : Bool) (base : Addr) (t : State) :
    t.RunsInside (recordCopy toBuffer base r1 r2 t) := by
  refine ((moveRecord_inside t.tick _ _ _ _ _).after (by simp)).bind fun m u => ?_
  refine State.RunsInside.bind ?_ fun onward v => (loadPc_inside _ _).after (by simp)
  split
  · simp
  · exact inlineTarget_inside _ _ u

/-- RTD1, RTD2, RMA1 and RMA2. -/
theorem recordInstr_inside {toBuffer : Bool} {base : State → Addr} :
    s.EndsInside (sinceS15 (transfer fun t => recordCopy toBuffer (base t) r1 r2 t) s) :=
  sinceS15_inside (transfer_inside fun t => recordCopy_inside _ _ t)

end Special

/-! ## Loads, stores and status switching -/

section Single

variable {s : State} {r1 r2 : Reg} {rx : RxAddr}

theorem execLm_inside : s.EndsInside (execLm r1 rx s) := multiple_inside fun _ t => loadMultiple_inside t _ _ _

theorem execStm_inside : s.EndsInside (execStm r1 rx s) :=
  multiple_inside fun _ t => storeMultiple_inside t _ _ _

theorem execAm_inside : s.EndsInside (execAm r1 rx s) := by
  refine sequential_inside fun t => (operandFull_inside rx t).bind fun _ u =>
    (writeFull_inside u _ _).bind fun _ w => ?_
  split <;> simp

theorem execAhm_inside : s.EndsInside (execAhm r1 rx s) :=
  sequential_inside fun t => (operandHalf_inside rx t).bind fun _ _ =>
    (writeHalf_inside _ _ _).after (by simp)

theorem execLpsw_inside : s.EndsInside (execLpsw r1 rx s) :=
  privileged_inside (transfer_inside fun t => (readPswAndPc_inside t _).bind fun _ u =>
    loadPswAndPc_inside u _ _)

theorem execUpsw_inside : s.EndsInside (execUpsw r1 rx s) :=
  transfer_inside fun t => (readPswAndPc_inside t _).bind fun _ _ => (loadPc_inside _ _).after (by simp)

theorem execEpsr_inside : s.EndsInside (execEpsr r1 r2 s) := by
  refine privileged_inside (sequential_inside fun t => ?_)
  split <;> simp

theorem execSvc_inside : s.EndsInside (execSvc r1 rx s) :=
  transfer_inside fun t => (absReadFull_inside t _).bind fun _ u => (absReadHalf_inside u _).bind fun _ _ =>
    (enterAt_inside _ _).after (by simp)

end Single

/-! ## I/O -/

section Io

variable {s t : State} {r1 r2 : Reg}

/-- A bus operation takes the answer to it and is recorded, no more. -/
theorem busTransact_outside (op : BusOp) (s : State) : s.SameOutside (busTransact op s).2 :=
  (State.StaysInside.refl s).1

/-- What is written inside the Engine after a bus operation. -/
theorem State.SameOutside.inside {u : State} (h : s.SameOutside t) (k : t.StaysInside u) : s.SameOutside u :=
  h.trans k.1

/-- An instruction that does not transfer control keeps what its body keeps. -/
theorem sequential_outside {len : Nat} {body : State → Res Unit}
    (hb : ∀ t u : State, body t = .ok () u → t.SameOutside u) (e : sequential len body s = .next t) :
    s.SameOutside t := by
  obtain ⟨u, hu, ht⟩ := sequential_next e
  exact (hb s.begin u hu).inside ht

theorem privileged_outside {meaning : State → Out} (h : meaning s = .next t → s.SameOutside t)
    (e : privileged meaning s = .next t) : s.SameOutside t :=
  (privileged_next e).elim (fun e => (takeIllegal_inside s t e).1) h

theorem execCio_outside (e : execCio r1 r2 s = .next t) : s.SameOutside t := by
  refine sequential_outside (fun t u h => ?_) e
  cases h
  exact State.SameOutside.inside (t := { t with
    displayLeft := (t.reg (nextReg r1)).setWidth 20, displayRight := t.regHalf r1 })
    (State.StaysInside.refl t).1 (by simp)

/-- OC, OCR, WD and WDR. -/
theorem output_outside {len : Nat} {op : Half → Half → BusOp} {operand : State → Res Half}
    (ho : ∀ t : State, t.RunsInside (operand t)) (e : output len op r1 operand s = .next t) :
    s.SameOutside t := by
  refine privileged_outside (sequential_outside fun t u h => ?_) e
  obtain ⟨v, w, hv, hu⟩ := Res.bind_eq_ok.1 h
  cases hu
  exact ((ho t v w hv).1.trans (busTransact_outside (op (t.device r1) v) w)).inside (by simp [afterOutput])

theorem execSsr_outside (e : execSsr r1 r2 s = .next t) : s.SameOutside t := by
  refine privileged_outside (sequential_outside fun t u h => ?_) e
  cases h
  refine (busTransact_outside (.sense (t.device r1)) t).inside ?_
  split <;> simp

theorem execRdr_outside (e : execRdr r1 r2 s = .next t) : s.SameOutside t := by
  refine privileged_outside (sequential_outside fun t u h => ?_) e
  cases h
  refine (busTransact_outside (.read (t.device r1)) t).inside ?_
  split <;> simp

end Io

/-! ## Every instruction -/

/-- Is it an I/O instruction, one that reaches the display or the bus (R350)? -/
def reachesOut : Instr → Bool
  | .cio .. | .ssr .. | .rdr .. | .ocr .. | .wdr .. | .oc .. | .wd .. => true
  | _ => false

/-- Every instruction but those of I/O stays inside the Engine: each by the shape it has, or, if it has one of
its own, by the lemma about it. -/
theorem exec_inside {i : Instr} (hi : reachesOut i = false) (s : State) : s.EndsInside (exec i s) := by
  unfold exec
  cases i with
  | lr | lis | lcs | la | lbr | exhr | exbr | lhr | li | lhi => exact load_inside (operandOf_inside _)
  | l => exact load_inside (operandFull_inside _)
  | lh => exact load_inside (operandHalf_inside _)
  | lhl => exact load_inside (operandHalfZero_inside _)
  | lb => exact load_inside (operandByte_inside _)
  | st => exact sequential_inside fun t => writeFull_inside t _ _
  | sth => exact sequential_inside fun t => writeHalf_inside t _ _
  | stb => exact sequential_inside fun t => writeByte_inside t _ _
  | stbr => exact sequential_inside (by simp)
  | lm => exact execLm_inside
  | stm => exact execStm_inside
  | copy => exact execCopy_inside
  | ar | ais | ai | ahi => exact addTo_inside (operandOf_inside _)
  | a => exact addTo_inside (operandFull_inside _)
  | ah => exact addTo_inside (operandHalf_inside _)
  | am => exact execAm_inside
  | ahm => exact execAhm_inside
  | sr | sis | si | shi => exact subFrom_inside (operandOf_inside _)
  | s => exact subFrom_inside (operandFull_inside _)
  | sh => exact subFrom_inside (operandHalf_inside _)
  | clr | cli | clhi => exact compareLogical_inside (operandOf_inside _)
  | cl => exact compareLogical_inside (operandFull_inside _)
  | clh => exact compareLogical_inside (operandHalf_inside _)
  | clb => exact operate_inside (operandByte_inside _) (by simp)
  | cr | ci | chi => exact compareSigned_inside (operandOf_inside _)
  | c => exact compareSigned_inside (operandFull_inside _)
  | ch => exact compareSigned_inside (operandHalf_inside _)
  | mr => exact multiply_inside (operandOf_inside _)
  | m => exact multiply_inside (operandFull_inside _)
  | mhr => exact multiplyHalf_inside (operandOf_inside _)
  | mh => exact multiplyHalf_inside (operandHalfZero_inside _)
  | dr => exact divide_inside (operandOf_inside _)
  | d => exact divide_inside (operandFull_inside _)
  | dhr => exact divideByHalf_inside (operandOf_inside _)
  | dh => exact divideByHalf_inside (operandHalf_inside _)
  | nr | ni | nhi | or | oi | ohi | xr | xi | xhi => exact logical_inside (operandOf_inside _)
  | n | o | x => exact logical_inside (operandFull_inside _)
  | nh | oh | xh => exact logical_inside (operandHalf_inside _)
  | ti | thi => exact test_inside (operandOf_inside _)
  | arand => exact execArand_inside
  | ts => exact operate_inside (fun t => testAndSetAt_inside t _) (by simp)
  | tbt => exact operate_inside (fun t => readHalf_inside t _) (by simp)
  | sbt | rbt | cbt => exact changeBit_inside
  | sll | slls | srl | srls | sra => exact shiftFull_inside
  | slhl | slhls | srhl | srhls => exact shiftHalf_inside
  | rll | rrl => exact rotate_inside
  | jt | jtr | jtbs | jtfs | nop | nopr | jn | jnr | jnbs | jnfs | jg | jgr | jgbs | jgfs
  | jl | jlr | jlbs | jlfs | jc | jcr | jcbs | jcfs => exact jumpTrue_inside
  | jf | jfr | jfbs | jffs | j | jr | jbs | jfs | je | jer | jebs | jefs | jge | jger | jgebs | jgefs
  | jle | jler | jlebs | jlefs | jnc | jncr | jncbs | jncfs => exact jumpFalse_inside
  | jal | jalr => exact jumpLink_inside
  | jffo | jffoh => exact jumpFirstOne_inside
  | lpsw => exact execLpsw_inside
  | lpswr => exact privileged_inside (transfer_inside fun t => loadPswAndPc_inside t _ _)
  | upsw => exact execUpsw_inside
  | epsr => exact execEpsr_inside
  | svc => exact execSvc_inside
  | sbod => exact execSbod_inside
  | xmit => exact execXmit_inside
  | spm => exact execSpm_inside
  | gchar => exact execGchar_inside
  | scan => exact execScan_inside
  | align => exact execAlign_inside
  | cksum => exact execCksum_inside
  | gci => exact execGci_inside
  | wci => exact execWci_inside
  | cbct => exact execCbct_inside
  | rtd1 | rtd2 | rma1 | rma2 => exact recordInstr_inside
  | cio | ssr | rdr | ocr | wdr | oc | wd => cases hi

/-- Settles O4: the I/O instructions reach the display and the bus, every other one stays inside the Engine. -/
theorem execKeepsOutside : Obligations.ExecKeepsOutside := by
  intro i s t e
  cases i with
  | cio => exact execCio_outside e
  | ssr => exact execSsr_outside e
  | rdr => exact execRdr_outside e
  | ocr | wdr => exact output_outside (fun t => runsInside_ok.2 (.refl t)) e
  | oc | wd => exact output_outside (operandIo_inside _) e
  | _ => exact (exec_inside rfl s t e).1

end Sys2Proof.Machine

/-! # What every step keeps

`State.Inv` after every step. Within an instruction memory stays canonical and the program counter even
(`State.Fit`), until a location loaded after a MAC fault may be any at all (`State.FitAtEnd`); the interrupt
that ends such an instruction, or its wait for a machine malfunction, makes it even again. Both are proved once for
each state operation, then for the shapes of instructions, then for every instruction, the fetch and the
boundary. -/

namespace Sys2Proof.Machine

/-! ## The predicates -/

/-- Memory is canonical and the program counter even: so it is all through an instruction. -/
def State.Fit (s : State) : Prop := s.mem.wf = true ∧ s.pc.getLsbD 0 = false

/-- The same where an instruction ends: after a MAC fault the program counter may be any (R465). -/
def State.FitAtEnd (s : State) : Prop := s.mem.wf = true ∧ (s.pend.mac = false → s.pc.getLsbD 0 = false)

/-- Memory is canonical and no MAC fault is pending: so it is where an exception is taken. -/
def State.Calm (s : State) : Prop := s.mem.wf = true ∧ s.pend.mac = false

/-- The state after an operation, where it has a value, is of some kind. -/
def Res.Leaves {α : Type} (P : State → Prop) (r : Res α) : Prop := ∀ a t, r = .ok a t → P t

/-- The next state, where there is one, satisfies the invariant. -/
def LeavesInv (o : Out) : Prop := ∀ t, o = .next t → t.Inv

theorem State.Inv.fit {s : State} (h : s.Inv) : s.Fit := ⟨h.1, h.2.1⟩

theorem State.Inv.calm {s : State} (h : s.Inv) : s.Calm := ⟨h.1, h.2.2⟩

theorem State.Fit.atEnd {s : State} (h : s.Fit) : s.FitAtEnd := ⟨h.1, fun _ => h.2⟩

theorem State.Inv.begin {s : State} (h : s.Inv) : s.begin.Inv := ⟨h.1, h.2.1, rfl⟩

theorem State.Fit.access {s t : State} (h : s.Fit) (k : s.AfterAccess t) : t.Fit := by
  refine ⟨k.2 h.1, ?_⟩
  rw [k.1]
  exact h.2

theorem State.AfterRearm.fit {s t : State} (h : s.Fit) (k : s.AfterRearm t) : t.Fit :=
  State.Fit.access (s := { s with regs := t.regs }) h k.access

/-! ## Even locations -/

theorem add_even {a b : Addr} (ha : a.getLsbD 0 = false) (hb : b.getLsbD 0 = false) :
    (a + b).getLsbD 0 = false := by
  simp only [BitVec.getLsbD, Nat.testBit_zero, BitVec.toNat_add, decide_eq_false_iff_not] at *
  omega

theorem nextAddr_even {a : Addr} (ha : a.getLsbD 0 = false) {len : Nat} (hl : len % 2 = 0) :
    (nextAddr a len).getLsbD 0 = false := by
  refine add_even ha ?_
  simp only [BitVec.getLsbD, Nat.testBit_zero, BitVec.toNat_ofNat, decide_eq_false_iff_not]
  omega

theorem evenAddr_even (a : Addr) : (evenAddr a).getLsbD 0 = false := by
  simp [evenAddr]

/-- Every RX form has an even number of bytes (R111). -/
@[simp] theorem rxLength_even (rx : RxAddr) : rx.length % 2 = 0 := by
  cases rx <;> simp [RxAddr.length]

/-! ## What writes neither memory nor the program counter -/

section Writes

variable {t : State}

@[simp] theorem fit_setPsw (q : Psw) : (t.setPsw q).Fit ↔ t.Fit := .rfl
@[simp] theorem fit_setFlags (f : Flags) : (t.setFlags f).Fit ↔ t.Fit := .rfl
@[simp] theorem fit_tick : t.tick.Fit ↔ t.Fit := .rfl
@[simp] theorem fit_setRegIn (k : Nib) (r : Reg) (v : Word) : (t.setRegIn k r v).Fit ↔ t.Fit := .rfl
@[simp] theorem fit_setReg (r : Reg) (v : Word) : (t.setReg r v).Fit ↔ t.Fit := .rfl
@[simp] theorem fit_freeReg (r : Reg) : (t.freeReg r).Fit ↔ t.Fit := .rfl
@[simp] theorem fit_freeRegs (picked : Nat → Bool) : (t.freeRegs picked).Fit ↔ t.Fit := .rfl
@[simp] theorem fit_freeCc : t.freeCc.Fit ↔ t.Fit := .rfl
@[simp] theorem fit_advanceSbx : t.advanceSbx.Fit ↔ t.Fit := .rfl

@[simp] theorem fit_writeReg (r : Reg) (v : Word) : (t.writeReg r v).Fit ↔ t.Fit := by
  unfold State.writeReg
  split <;> simp

@[simp] theorem fit_writeFlags (f : Flags) : (t.writeFlags f).Fit ↔ t.Fit := by
  unfold State.writeFlags
  split <;> simp

@[simp] theorem fit_loadPsw (q : Psw) : (t.loadPsw q).Fit ↔ t.Fit := by
  unfold State.loadPsw
  split <;> simp

@[simp] theorem fit_writeTrace (b : Bool) : (t.writeTrace b).Fit ↔ t.Fit := by
  unfold State.writeTrace
  split <;> simp

@[simp] theorem fit_raiseMac (c : MacCause) : (t.raiseMac c).Fit ↔ t.Fit := by
  unfold State.raiseMac
  split <;> exact .rfl

@[simp] theorem fit_mayFault : t.mayFault.Fit ↔ t.Fit := by
  unfold State.mayFault
  split <;> simp

@[simp] theorem fit_setSba (port : Nat) (on : Bool) : (t.setSba port on).Fit ↔ t.Fit := by
  unfold State.setSba
  split <;> simp

@[simp] theorem fit_loadFlags (v : Word) : (t.loadFlags v).Fit ↔ t.Fit := by
  simp [State.loadFlags]

@[simp] theorem fit_bitResult (h : Half) (d : Word) : (t.bitResult h d).Fit ↔ t.Fit := by
  simp [State.bitResult]

@[simp] theorem fit_shiftFlags {w : Nat} (last : Option Bool) (tested : BitVec w) :
    (t.shiftFlags last tested).Fit ↔ t.Fit := by
  cases last <;> simp [State.shiftFlags]

@[simp] theorem fit_halfShiftFlags (last : Option Bool) (h : Half) (w : Word) :
    (t.halfShiftFlags last h w).Fit ↔ t.Fit := by
  unfold State.halfShiftFlags
  split <;> simp

@[simp] theorem fit_writeDivision (r1 : Reg) (q : Option (Word × Word)) :
    (t.writeDivision r1 q).Fit ↔ t.Fit := by
  cases q <;> simp [State.writeDivision]

@[simp] theorem fit_freeEach (rs : List Reg) : (rs.foldl State.freeReg t).Fit ↔ t.Fit := by
  induction rs generalizing t with
  | nil => rfl
  | cons r rs ih => rw [List.foldl_cons, ih, fit_freeReg]

@[simp] theorem fit_undescribedRead (rs : List Reg) : (t.undescribedRead rs).Fit ↔ t.Fit := by
  simp [State.undescribedRead]

@[simp] theorem fit_foundPort (port : Nat) : (t.foundPort port).Fit ↔ t.Fit := by
  simp [State.foundPort]

@[simp] theorem fit_sbodWorks (r1 : Reg) : (t.sbodWorks r1).Fit ↔ t.Fit := by
  simp [State.sbodWorks]

@[simp] theorem fit_afterCopy (r1 r2 : Reg) : (t.afterCopy r1 r2).Fit ↔ t.Fit := .rfl
@[simp] theorem fit_afterArand (r1 : Reg) : (t.afterArand r1).Fit ↔ t.Fit := .rfl

@[simp] theorem fit_afterMove (r1 r2 : Reg) (m : Moved) : (t.afterMove r1 r2 m).Fit ↔ t.Fit := by
  simp [State.afterMove]

end Writes

/-! ## What writes memory or the program counter -/

section Changes

variable {s t : State}

theorem State.Fit.setPc (h : t.Fit) {a : Addr} (ha : a.getLsbD 0 = false) : (t.setPc a).Fit := ⟨h.1, ha⟩

/-- Control goes on past an instruction of an even number of bytes. -/
theorem State.Fit.goOn (h : t.Fit) (hs : s.Fit) {len : Nat} (hl : len % 2 = 0 := by simp) :
    (t.setPc (nextAddr s.pc len)).Fit :=
  h.setPc (nextAddr_even hs.2 hl)

theorem State.Fit.setPcEither (h : t.Fit) {a b : Addr} (ha : a.getLsbD 0 = false)
    (hb : b.getLsbD 0 = false) : (t.setPcEither a b).Fit := by
  refine State.Fit.setPc (t := t.tick) h ?_
  split
  · exact ha
  · exact hb

theorem State.Fit.goEither (h : t.Fit) (hs : s.Fit) {m n : Nat} (hm : m % 2 = 0 := by simp)
    (hn : n % 2 = 0 := by simp) : (t.setPcEither (nextAddr s.pc m) (nextAddr s.pc n)).Fit :=
  h.setPcEither (nextAddr_even hs.2 hm) (nextAddr_even hs.2 hn)

theorem State.Fit.scribble (h : t.Fit) : t.scribble.Fit := ⟨Memory.wf_scribbled _ _ _ h.1, h.2⟩

theorem State.Fit.openHalf (h : t.Fit) (ea : Word) : (t.openHalf ea).Fit :=
  ⟨Memory.wf_scribbled _ _ _ h.1, h.2⟩

theorem State.Fit.asyncBody (h : t.Fit) (rs : List Reg) : (t.asyncBody rs).Fit := by
  have hs : (t.freeRegs ownedByAsync).scribble.Fit := State.Fit.scribble h
  simpa [State.asyncBody, State.undescribed] using hs

theorem State.Fit.cksumAdvance (h : t.Fit) (r2 : Reg) (bytes : Nat) : (t.cksumAdvance r2 bytes).Fit := by
  unfold State.cksumAdvance
  dsimp only
  split
  · exact State.Fit.goOn (by simpa using h) h
  · simpa using h

theorem State.Fit.sbodInput (h : t.Fit) (r1 : Reg) : (t.sbodInput r1).Fit :=
  State.Fit.goOn (by simpa using h) h

theorem State.Fit.sbodOutput (h : t.Fit) (r1 : Reg) (ports : List Nat) : (t.sbodOutput r1 ports).Fit := by
  unfold State.sbodOutput
  dsimp only
  split <;> exact State.Fit.goOn (by simpa using h) h

end Changes

/-! ## Sequencing -/

section Sequencing

variable {α β : Type} {P Q : State → Prop} {s t : State}

@[simp] theorem leaves_ok {a : α} : Res.Leaves P (.ok a t) ↔ P t := by
  simp [Res.Leaves]

@[simp] theorem leaves_refused {f : Refusal} : Res.Leaves P (.refused f : Res α) := by
  simp [Res.Leaves]

/-- Two operations, the second begun where the first has left. -/
theorem Res.Leaves.bind {r : Res α} {k : α → State → Res β} (hr : r.Leaves P)
    (hk : ∀ a t, P t → (k a t).Leaves Q) : (r.bind k).Leaves Q := by
  intro b u e
  obtain ⟨a, t, h1, h2⟩ := Res.bind_eq_ok.1 e
  exact hk a t (hr a t h1) b u h2

theorem Res.Leaves.mono {r : Res α} (h : r.Leaves P) (hPQ : ∀ t, P t → Q t) : r.Leaves Q :=
  fun a t e => hPQ t (h a t e)

theorem Res.Leaves.atEnd {r : Res α} (h : r.Leaves State.Fit) : r.Leaves State.FitAtEnd :=
  h.mono fun _ => State.Fit.atEnd

theorem Res.Leaves.out {r : Res Unit} (h : r.Leaves State.Inv) : LeavesInv r.out :=
  fun t e => h () t (Res.out_eq_next.1 e)

@[simp] theorem leavesInv_next : LeavesInv (.next t) ↔ t.Inv := by
  simp [LeavesInv]

end Sequencing

/-! ## Memory -/

section Memory

variable {s : State} (h : s.Fit)

include h

theorem readHalf_fit (ea : Word) : (readHalf ea s).Leaves State.Fit :=
  fun _ _ e => h.access (readHalf_after e).access

theorem readFull_fit (ea : Word) : (readFull ea s).Leaves State.Fit :=
  fun _ _ e => h.access (readFull_after e).access

theorem readByte_fit (ea : Word) : (readByte ea s).Leaves State.Fit :=
  fun _ _ e => h.access (readByte_after e).access

theorem writeHalf_fit (ea : Word) (v : Half) : (writeHalf ea v s).Leaves State.Fit :=
  fun _ _ e => h.access (writeHalf_after e)

theorem writeFull_fit (ea v : Word) : (writeFull ea v s).Leaves State.Fit :=
  fun _ _ e => h.access (writeFull_after e)

theorem writeByte_fit (ea : Word) (b : Byte) : (writeByte ea b s).Leaves State.Fit :=
  fun _ _ e => h.access (writeByte_after e)

theorem testAndSetAt_fit (va : Addr) : (testAndSetAt va s).Leaves State.Fit :=
  fun _ _ e => h.access (testAndSetAt_after e)

theorem readHalves_fit (l : List Word) : (readHalves l s).Leaves State.Fit :=
  fun _ _ e => h.access (readHalves_after e).access

theorem copyEach_fit (open_ : Bool) (l : List (Word × Word)) : (copyEach open_ l s).Leaves State.Fit :=
  fun _ _ e => h.access (copyEach_after e)

theorem scanRing_fit (halves : Bool) (ring lead : Word) (n : Nat) (trail : Word) :
    (scanRing halves ring lead n trail s).Leaves State.Fit :=
  fun _ _ e => h.access (scanRing_after e).access

theorem writeBit_fit (ea : Word) (k : Nat) (b : Bool) : (writeBit ea k b s).Leaves State.Fit :=
  fun _ _ e => h.access (writeBit_after e)

theorem writeBits_fit (k : Nat) (l : List (Word × Bool)) : (writeBits k l s).Leaves State.Fit :=
  fun _ _ e => h.access (writeBits_after e)

theorem linkPort_fit (port : Nat) (length : Half) : (linkPort port length s).Leaves State.Fit :=
  fun _ _ e => h.access (linkPort_after e)

theorem rearm_fit (index : Nat) : (rearm index s).Leaves State.Fit :=
  fun _ _ e => State.AfterRearm.fit h (rearm_after e)

theorem moveRecord_fit (toBuffer : Bool) (n : Nat) (held : Option Word) (record buffer : Word) :
    (moveRecord toBuffer n held record buffer s).Leaves State.Fit :=
  fun _ _ e => h.access (moveRecord_after e)

theorem readPswAndPc_fit (ea : Word) : (readPswAndPc ea s).Leaves State.Fit :=
  (readFull_fit h _).bind fun _ _ ht => (readFull_fit ht _).bind fun _ _ hu => leaves_ok.2 hu

theorem turnTamOff_fit (port : Nat) : (turnTamOff port s).Leaves State.Fit :=
  (writeBit_fit (s := s.tick) h _ _ _).bind fun _ _ ht => leaves_ok.2 (by simpa using ht)

omit h in
theorem scanSteps_fit (after : Bool) (n : Nat) {s : State} (h : s.Fit) :
    (scanSteps after n s).Leaves State.Fit := by
  induction n generalizing s with
  | zero => exact leaves_ok.2 h
  | succ n ih => exact (rearm_fit h _).bind fun _ _ ht => ih (by simpa using ht)

theorem copyBlock_fit (down extra : Bool) (src dst : List Word) (before : Word) :
    (copyBlock down extra src dst before s).Leaves State.Fit := by
  unfold copyBlock
  split
  · refine (copyEach_fit h _ _).bind fun _ t ht => ?_
    split
    · exact (readHalf_fit ht _).bind fun _ _ hu => leaves_ok.2 hu
    · exact leaves_ok.2 ht
  · exact (readHalf_fit h _).bind fun _ _ ht => copyEach_fit ht _ _

end Memory

/-! ## Memory, by recursion -/

section Loops

theorem loadMultiple_fit {s : State} (h : s.Fit) (n : Nat) (ea : Word) (r : Reg) :
    (loadMultiple n ea r s).Leaves State.Fit := by
  induction n generalizing s ea r with
  | zero => exact leaves_ok.2 h
  | succ n ih => exact (readFull_fit h _).bind fun _ _ ht => ih (by simpa using ht) _ _

theorem storeMultiple_fit {s : State} (h : s.Fit) (n : Nat) (ea : Word) (r : Reg) :
    (storeMultiple n ea r s).Leaves State.Fit := by
  induction n generalizing s ea r with
  | zero => exact leaves_ok.2 h
  | succ n ih => exact (writeFull_fit h _ _).bind fun _ _ ht => ih ht _ _

theorem writeFreeHalves_fit {s : State} (h : s.Fit) (l : List Word) :
    (writeFreeHalves l s).Leaves State.Fit := by
  induction l generalizing s with
  | nil => exact leaves_ok.2 h
  | cons ea rest ih => exact (writeHalf_fit (s := s.tick) h _ _).bind fun _ _ ht => ih ht

theorem searchArrays_fit {s : State} (h : s.Fit) (n : Nat) (p q : Word) :
    (searchArrays n p q s).Leaves State.Fit := by
  induction n generalizing s p q with
  | zero => exact leaves_ok.2 h
  | succ n ih =>
    refine (readHalf_fit h p).bind fun a t ht => (readHalf_fit ht q).bind fun b u hu => ?_
    split
    · exact leaves_ok.2 hu
    split
    · exact ih hu _ _
    · exact leaves_ok.2 hu

end Loops

/-! ## Operands -/

section Operands

variable {s : State} (h : s.Fit)

include h

theorem operandOf_fit (f : State → Word) : (operandOf f s).Leaves State.Fit := leaves_ok.2 h

theorem operandFull_fit (rx : RxAddr) : (operandFull rx s).Leaves State.Fit := readFull_fit h _

theorem operandHalf_fit (rx : RxAddr) : (operandHalf rx s).Leaves State.Fit :=
  (readHalf_fit h _).bind fun _ _ ht => leaves_ok.2 ht

theorem operandHalfZero_fit (rx : RxAddr) : (operandHalfZero rx s).Leaves State.Fit :=
  (readHalf_fit h _).bind fun _ _ ht => leaves_ok.2 ht

theorem operandByte_fit (rx : RxAddr) : (operandByte rx s).Leaves State.Fit :=
  (readByte_fit h _).bind fun _ _ ht => leaves_ok.2 ht

theorem operandIo_fit (rx : RxAddr) : (operandIo rx s).Leaves State.Fit :=
  (readHalf_fit h _).bind fun _ _ ht => leaves_ok.2 ht

end Operands

/-! ## Exceptions -/

section Exceptions

variable {s : State}

/-- An exception entry goes to an even location. -/
theorem State.Calm.enterAt (h : s.Calm) (a : Addr) : (enterAt a s).Leaves State.Inv := by
  intro _ t e
  obtain ⟨ha, rfl⟩ := enterAt_eq_ok.1 e
  exact ⟨h.1, ha, h.2⟩

theorem State.Calm.absReadHalf (h : s.Calm) (a : Addr) : (absReadHalf a s).Leaves State.Calm := by
  intro _ t e
  rcases absReadHalf_ok e with rfl | ⟨-, rfl⟩ <;> exact h

theorem State.Calm.absReadFull (h : s.Calm) (a : Addr) : (absReadFull a s).Leaves State.Calm :=
  (h.absReadHalf _).bind fun _ _ ht => (ht.absReadHalf _).bind fun _ _ hu => leaves_ok.2 hu

theorem State.Calm.absWriteHalf (h : s.Calm) (a : Addr) (v : Half) :
    (absWriteHalf a v s).Leaves State.Calm := by
  intro _ t e
  rcases absWriteHalf_ok e with rfl | rfl
  · exact h
  · exact ⟨Memory.wf_setHalf h.1, h.2⟩

theorem State.Calm.absWriteFull (h : s.Calm) (a : Addr) (v : Word) :
    (absWriteFull a v s).Leaves State.Calm :=
  (h.absWriteHalf _ _).bind fun _ _ ht => ht.absWriteHalf _ _

theorem State.Calm.swapToRegisters (h : s.Calm) (pswAt pcAt saved : Addr) :
    (swapToRegisters pswAt pcAt saved s).Leaves State.Inv :=
  (h.absReadFull _).bind fun _ _ ht => (ht.absReadFull _).bind fun _ u hu =>
    State.Calm.enterAt (by exact hu) _

theorem takeIllegal_inv (h : s.Calm) : LeavesInv (takeIllegal s) := (h.swapToRegisters _ _ _).out

theorem takeMac_inv (h : s.mem.wf = true) (saved : Addr) : LeavesInv (takeMac saved s) :=
  (State.Calm.swapToRegisters (s := (s.setMacPending false).setMacWaiting false) ⟨h, rfl⟩ _ _ _).out

/-- A MAC fault that ends an instruction is taken, or waits: its location is even (R458, R465). -/
theorem endWithMac_inv (h : s.mem.wf = true) (saved left : Addr) : LeavesInv (endWithMac saved left s) := by
  intro t e
  rcases endWithMac_eq_next.1 e with ⟨-, rfl⟩ | ⟨-, ht⟩
  · exact ⟨h, evenAddr_even left, rfl⟩
  · exact takeMac_inv h saved t ht

theorem takeMachineMalfunction_inv (h : s.Calm) (parity : Bool) :
    LeavesInv (takeMachineMalfunction parity s) := by
  have begins : (if parity then s else s.tick.tick).Calm := by
    split <;> exact h
  refine Res.Leaves.out ((begins.absWriteFull _ _).bind fun _ _ ht => (ht.absWriteFull _ _).bind fun _ _ hu =>
    (hu.absReadFull _).bind fun _ _ hv => (hv.absReadFull _).bind fun _ w hw => ?_)
  cases parity <;> exact State.Calm.enterAt (by exact hw) _

theorem takeIo_inv (h : s.Calm) (newPsw : Psw) (dev : Half) : LeavesInv (takeIo newPsw dev s) :=
  ((h.absReadHalf _).bind fun _ _ ht => State.Calm.enterAt (by exact ht) _).out

/-- The entry to the timer routine is even. -/
theorem enterTimer_fit (h : s.mem.wf = true) : (enterTimer s).Leaves State.Fit := by
  intro _ t e
  obtain ⟨ha, rfl⟩ := enterAt_eq_ok.1 e
  exact ⟨h, ha⟩

theorem enterTimer_inv (h : s.Calm) : (enterTimer s).Leaves State.Inv := State.Calm.enterAt (by exact h) _

end Exceptions

/-! ## Transfers of control -/

section Transfers

variable {s : State} (h : s.Fit)

include h

theorem loadPc_fit (a : Addr) : (loadPc a s).Leaves State.FitAtEnd := by
  intro _ t e
  rcases loadPc_ok e with ⟨-, ha, rfl⟩ | ⟨hm, rfl⟩
  · exact (h.setPc ha).atEnd
  · exact ⟨h.1, fun hf => absurd (hm.symm.trans hf) (by decide)⟩

theorem jumpTo_fit (target : Addr) : (jumpTo target s).Leaves State.FitAtEnd := by
  cases ho : target.getLsbD 0
  · cases ht : s.psw.t
    · rw [jumpTo_untraced ho ht]
      exact leaves_ok.2 (h.setPc ho).atEnd
    · rw [jumpTo_traced ho ht]
      exact (writeFull_fit h _ _).bind fun _ _ ht => (writeFull_fit ht _ _).bind fun _ u hu =>
        (readFull_fit (s := u.writeTrace false) (by simpa using hu) _).bind fun _ _ hv => loadPc_fit hv _
  · rw [jumpTo_odd s ho]
    simp

theorem loadPswAndPc_fit (pswWord pcWord : Word) :
    (loadPswAndPc pswWord pcWord s).Leaves State.FitAtEnd := by
  refine (loadPc_fit (by simpa using h) _).bind fun _ t ht => ?_
  split
  · exact (enterTimer_fit ht.1).atEnd
  · exact leaves_ok.2 ht

end Transfers

/-! ## The shapes of instructions -/

section Shapes

variable {s : State} (h : s.Inv)

include h

omit h in
/-- Where an instruction's body leaves memory canonical and, without a fault, an even location, its end keeps
the invariant. -/
theorem finish_inv {a : Addr} {r : Res Unit} (hr : r.Leaves State.FitAtEnd) : LeavesInv (finish a r) := by
  intro t e
  obtain ⟨u, hu, ⟨hm, rfl⟩ | ⟨-, he⟩⟩ := finish_eq_next.1 e
  · have fit := hr () t hu
    exact ⟨fit.1, fit.2 hm, hm⟩
  · exact endWithMac_inv (hr () u hu).1 _ _ t he

theorem transfer_inv {body : State → Res Unit}
    (hb : ∀ t : State, t.Inv → (body t).Leaves State.FitAtEnd) :
    LeavesInv (transfer body s) :=
  finish_inv (hb s.begin h.begin)

theorem sequential_inv {len : Nat} {body : State → Res Unit}
    (hb : ∀ t : State, t.Fit → (body t).Leaves State.Fit) (hl : len % 2 = 0 := by simp) :
    LeavesInv (sequential len body s) :=
  finish_inv ((hb s.begin h.fit).bind fun _ _ ht => leaves_ok.2 (ht.goOn h.fit hl).atEnd)

theorem privileged_inv {meaning : State → Out} (hm : LeavesInv (meaning s)) :
    LeavesInv (privileged meaning s) :=
  fun t e => (privileged_next e).elim (takeIllegal_inv h.calm t) (hm t)

theorem sinceS15_inv {meaning : State → Out} (hm : LeavesInv (meaning s)) :
    LeavesInv (sinceS15 meaning s) := by
  unfold sinceS15
  split
  · exact hm
  · exact takeIllegal_inv h.calm

theorem asyncOnly_inv {meaning : State → Out} (hm : LeavesInv (meaning s)) :
    LeavesInv (asyncOnly meaning s) := by
  unfold asyncOnly
  split
  · exact hm
  · exact takeIllegal_inv h.calm

/-- An instruction that fetches its operand and then only writes registers and flags. -/
theorem operate_inv {α : Type} {len : Nat} {operand : State → Res α} {result : State → α → State → State}
    (ho : ∀ t : State, t.Fit → (operand t).Leaves State.Fit)
    (hw : ∀ (t : State) v (u : State), (result t v u).Fit ↔ u.Fit) (hl : len % 2 = 0 := by simp) :
    LeavesInv (sequential len (fun t => (operand t).bind fun v u => .ok () (result t v u)) s) :=
  sequential_inv h (fun t ht => (ho t ht).bind fun v u hu => leaves_ok.2 ((hw t v u).2 hu)) hl

section Operand

variable {len : Nat} {operand : State → Res Word} {r1 : Reg}
  (ho : ∀ t : State, t.Fit → (operand t).Leaves State.Fit)

include ho

theorem load_inv (hl : len % 2 = 0 := by simp) : LeavesInv (load len operand r1 s) :=
  operate_inv h (result := fun _ v t => (t.writeReg r1 v).loadFlags v) ho (by simp) hl

theorem addTo_inv (hl : len % 2 = 0 := by simp) : LeavesInv (addTo len operand r1 s) :=
  operate_inv h ho (by simp) hl

theorem subFrom_inv (hl : len % 2 = 0 := by simp) : LeavesInv (subFrom len operand r1 s) :=
  operate_inv h ho (by simp) hl

theorem compareLogical_inv (hl : len % 2 = 0 := by simp) : LeavesInv (compareLogical len operand r1 s) :=
  operate_inv h ho (by simp) hl

theorem compareSigned_inv (hl : len % 2 = 0 := by simp) : LeavesInv (compareSigned len operand r1 s) :=
  operate_inv h ho (by simp) hl

theorem multiply_inv (hl : len % 2 = 0 := by simp) : LeavesInv (multiply len operand r1 s) :=
  operate_inv h ho (by simp) hl

theorem multiplyHalf_inv (hl : len % 2 = 0 := by simp) : LeavesInv (multiplyHalf len operand r1 s) :=
  operate_inv h ho (by simp) hl

theorem divide_inv (hl : len % 2 = 0 := by simp) : LeavesInv (divide len operand r1 s) :=
  operate_inv h ho (by simp) hl

theorem divideByHalf_inv (hl : len % 2 = 0 := by simp) : LeavesInv (divideByHalf len operand r1 s) :=
  operate_inv h ho (by simp) hl

theorem logical_inv {f : Word → Word → Word} (hl : len % 2 = 0 := by simp) :
    LeavesInv (logical f len operand r1 s) :=
  operate_inv h (result := fun _ v t => (t.writeReg r1 (f (t.reg r1) v)).loadFlags (f (t.reg r1) v)) ho
    (by simp) hl

theorem test_inv (hl : len % 2 = 0 := by simp) : LeavesInv (test len operand r1 s) :=
  operate_inv h ho (by simp) hl

end Operand

section Shifts

variable {len : Nat} {count : State → Nat} {r1 : Reg}

theorem shiftFull_inv {one : Word → Bool × Word} (hl : len % 2 = 0 := by simp) :
    LeavesInv (shiftFull one len count r1 s) :=
  sequential_inv h (fun t ht => leaves_ok.2 (by simpa using ht)) hl

theorem shiftHalf_inv {one : Half → Bool × Half} (hl : len % 2 = 0 := by simp) :
    LeavesInv (shiftHalf one len count r1 s) :=
  sequential_inv h (fun t ht => leaves_ok.2 (by simpa using ht)) hl

theorem rotate_inv {one : Word → Bool × Word} (hl : len % 2 = 0 := by simp) :
    LeavesInv (rotate one len count r1 s) :=
  sequential_inv h (fun t ht => leaves_ok.2 (by simpa using ht)) hl

end Shifts

theorem changeBit_inv {f : Half → Half → Half} {r1 : Reg} {rx : RxAddr} : LeavesInv (changeBit f r1 rx s) :=
  sequential_inv h fun _ ht => (readHalf_fit ht _).bind fun _ _ hu =>
    (writeHalf_fit hu _ _).bind fun _ _ hv => leaves_ok.2 (by simpa using hv)

theorem jumpIf_inv {len : Nat} {taken : State → Bool} {target : State → Addr} (hl : len % 2 = 0) :
    LeavesInv (jumpIf len taken target s) := by
  refine transfer_inv h fun t ht => ?_
  split
  · exact jumpTo_fit ht.fit _
  · exact leaves_ok.2 (ht.fit.goOn ht.fit hl).atEnd

theorem jumpTrue_inv {mask : Nib} {len : Nat} {target : State → Addr} (hl : len % 2 = 0 := by simp) :
    LeavesInv (jumpTrue mask len target s) := jumpIf_inv h hl

theorem jumpFalse_inv {mask : Nib} {len : Nat} {target : State → Addr} (hl : len % 2 = 0 := by simp) :
    LeavesInv (jumpFalse mask len target s) := jumpIf_inv h hl

theorem jumpLink_inv {len : Nat} {r1 : Reg} {target : State → Addr} :
    LeavesInv (jumpLink len r1 target s) :=
  transfer_inv h fun t ht => jumpTo_fit (by simpa using ht.fit) _

theorem jumpFirstOne_inv {w : Nat} {r1 : Reg} {n : Nib} {v : State → BitVec w} :
    LeavesInv (jumpFirstOne r1 n v s) := by
  refine transfer_inv h fun t ht => ?_
  split
  · exact leaves_ok.2 (ht.fit.goOn ht.fit).atEnd
  · exact jumpTo_fit (by simpa using ht.fit) _

/-- LM and STM, whole or abandoned. -/
theorem multiple_inv {len n : Nat} {transfers : Nat → State → Res Unit}
    (hk : ∀ k (t : State), t.Fit → (transfers k t).Leaves State.Fit) (hl : len % 2 = 0 := by simp) :
    LeavesInv (multiple len n transfers s) := by
  refine transfer_inv h fun t ht => Res.Leaves.atEnd ?_
  have whole : ((transfers n t).bind fun _ u => .ok () (u.setPc (nextAddr s.pc len))).Leaves State.Fit :=
    (hk n t ht.fit).bind fun _ _ hu => leaves_ok.2 (hu.goOn h.fit hl)
  dsimp only
  split
  · split
    · refine (hk _ t ht.fit).bind fun _ u hu => ?_
      split
      · exact whole
      · exact leaves_ok.2 (hu.setPcEither h.fit.2 (nextAddr_even h.fit.2 hl))
    · exact whole
  · exact whole

end Shapes

/-! ## The special instructions -/

section Special

variable {s : State} (h : s.Inv) {r1 r2 : Reg}

include h

omit h in
theorem copyWhole_fit {t : State} (ht : t.Fit) : (copyWhole r1 r2 t).Leaves State.Fit :=
  (copyBlock_fit (s := t.tick) ht _ _ _ _ _).bind fun _ u hu =>
    leaves_ok.2 (State.Fit.goOn (t := u.afterCopy r1 r2) hu ht)

omit h in
theorem copyPart_fit {t : State} (ht : t.Fit) (k : Nat) : (copyPart k r1 r2 t).Leaves State.Fit := by
  unfold copyPart
  dsimp only
  split <;> exact (copyBlock_fit (s := t.tick) ht _ _ _ _ _).bind fun _ _ hu => leaves_ok.2 (by simpa using hu)

theorem execCopy_inv : LeavesInv (execCopy r1 r2 s) := by
  refine sinceS15_inv h (transfer_inv h fun t ht => Res.Leaves.atEnd ?_)
  dsimp only
  split
  · simp
  split
  · simp
  split
  · split
    · exact copyPart_fit ht.fit _
    · exact copyWhole_fit ht.fit
  · exact copyWhole_fit ht.fit

theorem execArand_inv : LeavesInv (execArand r1 r2 s) := by
  refine sinceS15_inv h (transfer_inv h fun t ht => Res.Leaves.atEnd ?_)
  dsimp only
  split
  · refine (searchArrays_fit ht.fit _ _ _).bind fun found u hu => ?_
    split
    · exact leaves_ok.2 (State.Fit.goEither (t := (u.freeReg r2).afterArand r1) hu h.fit)
    · cases found with
      | none => exact leaves_ok.2 (State.Fit.goOn (t := (u.freeReg r2).afterArand r1) hu h.fit)
      | some b =>
        exact leaves_ok.2
          (State.Fit.goOn (t := (u.setReg r2 (BitVec.ofNat 32 b)).afterArand r1) hu h.fit)
  · simp

omit h in
theorem sbodOpen_fit {t : State} (ht : t.Fit) : (sbodOpen r1 r2 t).Leaves State.Fit := by
  have body {u : State} (hu : u.Fit) : (u.sbodBody r1).Fit := hu.asyncBody _
  unfold sbodOpen
  split
  · exact leaves_ok.2 (State.Fit.goOn (by simpa using body (u := t.tick) ht) ht)
  · refine (readHalves_fit (s := t.tick) ht _).bind fun hs v hv => ?_
    dsimp only
    split <;> exact leaves_ok.2 (State.Fit.goOn (by simpa using body hv) ht)

omit h in
theorem sbodScan_fit {t : State} (ht : t.Fit) : (sbodScan r1 r2 t).Leaves State.Fit := by
  refine (scanSteps_fit _ _ (s := t.tick.tick) ht).bind fun _ u hu => ?_
  split
  · exact sbodOpen_fit hu
  split
  · exact leaves_ok.2 (State.Fit.sbodInput (t := u.tick) hu r1)
  · refine (scanSteps_fit _ _ (s := u.tick) hu).bind fun _ v hv =>
      (readHalves_fit hv _).bind fun hs w hw => ?_
    split
    · exact sbodOpen_fit hw
    · exact leaves_ok.2 (hw.sbodOutput r1 _)

theorem execSbod_inv : LeavesInv (execSbod r1 r2 s) := by
  refine asyncOnly_inv h (transfer_inv h fun t ht => Res.Leaves.atEnd ?_)
  split
  · exact sbodScan_fit ht.fit
  · exact sbodOpen_fit ht.fit

omit h in
theorem transmit_fit {t : State} (ht : t.Fit) : (transmit r1 r2 t).Leaves State.Fit := by
  refine (readHalf_fit ht _).bind fun lctime t1 h1 => (readHalf_fit h1 _).bind fun w t2 h2 =>
    (readHalf_fit h2 _).bind fun baud u hu => ?_
  refine (writeBits_fit (by simpa using hu) _ _).bind fun _ x hx => ?_
  refine Res.Leaves.bind (P := State.Fit) ?_ fun _ y hy => writeHalf_fit hy _ _
  split
  · exact turnTamOff_fit hx _
  · exact leaves_ok.2 hx

theorem execXmit_inv : LeavesInv (execXmit r1 r2 s) := by
  refine asyncOnly_inv h (sequential_inv h fun t ht => ?_)
  split
  · exact transmit_fit ht
  · exact leaves_ok.2 (ht.asyncBody _)

theorem execSpm_inv : LeavesInv (execSpm r1 r2 s) := by
  refine asyncOnly_inv h (transfer_inv h fun t ht => leaves_ok.2 (State.Fit.atEnd ?_))
  refine State.Fit.goOn (by simpa using ht.fit.asyncBody [r2, r1]) ht.fit ?_
  split <;> rfl

omit h in
theorem receive_fit {t : State} (ht : t.Fit) : (receive r1 r2 t).Leaves State.Fit := by
  refine (readHalf_fit ht _).bind fun length t1 h1 => (readHalf_fit h1 _).bind fun center t2 h2 =>
    (readHalf_fit h2 _).bind fun baud t3 h3 => ?_
  refine (readHalves_fit (s := t3.tick) h3 _).bind fun hs u hu => (linkPort_fit hu _ _).bind fun _ v hv => ?_
  refine leaves_ok.2 ?_
  split
  · exact State.Fit.goEither (by simpa using hv) ht
  · refine State.Fit.goOn (by simpa using hv) ht ?_
    split <;> rfl

theorem execGchar_inv : LeavesInv (execGchar r1 r2 s) := by
  refine asyncOnly_inv h (transfer_inv h fun t ht => Res.Leaves.atEnd ?_)
  split
  · exact receive_fit ht.fit
  · exact leaves_ok.2 (State.Fit.goEither (ht.fit.asyncBody _) ht.fit)

theorem execScan_inv : LeavesInv (execScan r1 r2 s) := by
  refine sinceS15_inv h (transfer_inv h fun t ht => Res.Leaves.atEnd ?_)
  refine (scanRing_fit (s := t.tick) ht.fit _ _ _ _ _).bind fun hit u hu => leaves_ok.2 ?_
  split
  · exact State.Fit.goEither (t := (u.freeReg (nextReg r1)).freeCc) hu ht.fit
  · refine State.Fit.goOn (t := (u.freeReg (nextReg r1)).freeCc) hu ht.fit ?_
    split <;> rfl

theorem execAlign_inv : LeavesInv (execAlign r1 r2 s) := by
  refine sinceS15_inv h (operate_inv h (fun t ht => ?_) (by simp))
  split
  · exact leaves_ok.2 ht
  · exact writeFreeHalves_fit ht _

theorem execCksum_inv : LeavesInv (execCksum r1 r2 s) := by
  unfold execCksum
  split
  · refine transfer_inv h fun t ht => Res.Leaves.atEnd ((readHalves_fit ht.fit _).bind fun _ u hu => ?_)
    refine leaves_ok.2 ?_
    split
    · simpa using hu.cksumAdvance r2 _
    · simpa using hu.goOn ht.fit
  · exact takeIllegal_inv h.calm

omit h in
theorem inlineTarget_fit {t : State} (ht : t.Fit) (a : Addr) (k : Nat) :
    (inlineTarget a k t).Leaves State.Fit :=
  (readHalf_fit ht _).bind fun _ _ hu => leaves_ok.2 hu

omit h in
theorem inlineError_fit {t : State} (ht : t.Fit) (rs : List Reg) :
    (inlineError rs t).Leaves State.FitAtEnd :=
  (inlineTarget_fit ht _ _).bind fun _ _ hu => loadPc_fit (by simpa using hu) _

omit h in
theorem gciNext_fit {t : State} (ht : t.Fit) (a : Addr) (p be : Word) :
    (gciNext a p be t).Leaves State.Fit := by
  have goes (k : Nat) : (inlineTarget a k t.tick.tick).Leaves State.Fit :=
    inlineTarget_fit (by simpa using ht) a k
  unfold gciNext
  dsimp only
  generalize (if t.freeBit then be == p else be == p + 1#32) = empty
  split
  · exact goes _
  split
  · exact goes 5
  · exact leaves_ok.2 (by simpa using ht)

theorem execGci_inv : LeavesInv (execGci r1 r2 s) := by
  refine sinceS15_inv h (transfer_inv h fun t ht => (readHalf_fit ht.fit _).bind fun size u hu => ?_)
  dsimp only
  split
  · exact inlineError_fit hu _
  refine (readHalf_fit hu _).bind fun quarter v hv => (readFull_fit hv _).bind fun p w hw => ?_
  split
  · exact inlineError_fit hw _
  refine (readFull_fit hw _).bind fun be x hx => (readByte_fit hx _).bind fun b y hy =>
    (gciNext_fit hy _ _ _).bind fun onward z hz =>
      (writeFull_fit (hz.openHalf _) _ _).bind fun _ z' hz' => loadPc_fit ?_ _
  split <;> simpa using hz'

omit h in
theorem wciStore_fit {t : State} (ht : t.Fit) (lastFilled : Bool) (be : Word) (b : Byte) :
    (wciStore lastFilled be b t).Leaves State.Fit := by
  unfold wciStore
  split
  · split
    · exact leaves_ok.2 ht
    · exact writeByte_fit ht _ _
  · exact writeByte_fit ht _ _

theorem execWci_inv : LeavesInv (execWci r1 r2 s) := by
  refine sinceS15_inv h (transfer_inv h fun t ht => (readHalf_fit ht.fit _).bind fun size u hu => ?_)
  dsimp only
  split
  · exact inlineError_fit hu _
  refine (readHalf_fit hu _).bind fun quarter v hv => (readFull_fit hv _).bind fun be w hw => ?_
  split
  · exact (inlineTarget_fit hw _ _).bind fun _ _ hx => loadPc_fit (by simpa using hx) _
  refine Res.Leaves.bind (P := State.Fit) ?_ fun onward x hx =>
    (wciStore_fit (State.Fit.openHalf (t := x.tick) hx _) _ _ _).bind fun _ y hy =>
      (writeFull_fit hy _ _).bind fun _ _ hz => loadPc_fit (by simpa using hz) _
  split
  · exact inlineTarget_fit hw _ _
  · exact leaves_ok.2 hw

theorem execCbct_inv : LeavesInv (execCbct r1 r2 s) :=
  sinceS15_inv h (sequential_inv h fun _ ht => leaves_ok.2 (by simpa using ht))

omit h in
theorem recordCopy_fit {t : State} (ht : t.Fit) (toBuffer : Bool) (base : Addr) :
    (recordCopy toBuffer base r1 r2 t).Leaves State.FitAtEnd := by
  refine (moveRecord_fit (s := t.tick) ht _ _ _ _ _).bind fun m u hu => ?_
  refine Res.Leaves.bind (P := State.Fit) ?_ fun onward v hv => loadPc_fit (by simpa using hv) _
  split
  · exact leaves_ok.2 hu
  · exact inlineTarget_fit hu _ _

/-- RTD1, RTD2, RMA1 and RMA2. -/
theorem recordInstr_inv {toBuffer : Bool} {base : State → Addr} :
    LeavesInv (sinceS15 (transfer fun t => recordCopy toBuffer (base t) r1 r2 t) s) :=
  sinceS15_inv h (transfer_inv h fun _ ht => recordCopy_fit ht.fit _ _)

end Special

/-! ## Loads, stores, status switching and I/O -/

section Single

variable {s : State} (h : s.Inv) {r1 r2 : Reg} {rx : RxAddr}

include h

theorem execAm_inv : LeavesInv (execAm r1 rx s) := by
  refine sequential_inv h fun t ht => (operandFull_fit ht rx).bind fun _ u hu =>
    (writeFull_fit hu _ _).bind fun _ w hw => ?_
  split <;> exact leaves_ok.2 (by simpa using hw)

theorem execAhm_inv : LeavesInv (execAhm r1 rx s) :=
  sequential_inv h fun _ ht => (operandHalf_fit ht rx).bind fun _ _ hu => writeHalf_fit (by simpa using hu) _ _

theorem execLpsw_inv : LeavesInv (execLpsw r1 rx s) :=
  privileged_inv h (transfer_inv h fun _ ht => (readPswAndPc_fit ht.fit _).bind fun _ _ hu =>
    loadPswAndPc_fit hu _ _)

theorem execUpsw_inv : LeavesInv (execUpsw r1 rx s) :=
  transfer_inv h fun _ ht => (readPswAndPc_fit ht.fit _).bind fun _ _ hu => loadPc_fit (by simpa using hu) _

theorem execEpsr_inv : LeavesInv (execEpsr r1 r2 s) := by
  refine privileged_inv h (sequential_inv h fun t ht => leaves_ok.2 ?_)
  split <;> simpa using ht

theorem execSvc_inv : LeavesInv (execSvc r1 rx s) :=
  transfer_inv h fun _ ht => ((ht.calm.absReadFull _).bind fun _ _ hu => (hu.absReadHalf _).bind fun _ _ hv =>
    State.Calm.enterAt (by exact hv) _).mono fun _ hw => hw.fit.atEnd

theorem execCio_inv : LeavesInv (execCio r1 r2 s) :=
  sequential_inv h fun t ht => leaves_ok.2 ((fit_writeReg _ _).2 (by exact ht))

omit h in
/-- A bus operation reaches neither memory nor the program counter. -/
theorem fit_busTransact {t : State} (op : BusOp) : (busTransact op t).2.Fit ↔ t.Fit := .rfl

/-- OC, OCR, WD and WDR. -/
theorem output_inv {len : Nat} {op : Half → Half → BusOp} {operand : State → Res Half}
    (ho : ∀ t : State, t.Fit → (operand t).Leaves State.Fit) (hl : len % 2 = 0 := by simp) :
    LeavesInv (output len op r1 operand s) :=
  privileged_inv h (sequential_inv h (fun t ht => (ho t ht).bind fun _ _ hu =>
    leaves_ok.2 ((fit_writeFlags _).2 ((fit_busTransact _).2 hu))) hl)

theorem execSsr_inv : LeavesInv (execSsr r1 r2 s) := by
  refine privileged_inv h (sequential_inv h fun t ht => leaves_ok.2 ?_)
  split <;> simpa using (fit_busTransact (.sense (t.device r1))).2 ht

theorem execRdr_inv : LeavesInv (execRdr r1 r2 s) := by
  refine privileged_inv h (sequential_inv h fun t ht => leaves_ok.2 ?_)
  split <;> simpa using (fit_busTransact (.read (t.device r1))).2 ht

end Single

/-! ## Every instruction -/

/-- Every instruction keeps the invariant: each by the shape it has, or, if it has one of its own, by the lemma
about it. -/
theorem exec_inv (i : Instr) {s : State} (h : s.Inv) : LeavesInv (exec i s) := by
  unfold exec
  cases i with
  | lr | lis | lcs | la | lbr | exhr | exbr | lhr | li | lhi =>
    exact load_inv h fun _ ht => operandOf_fit ht _
  | l => exact load_inv h fun _ ht => operandFull_fit ht _
  | lh => exact load_inv h fun _ ht => operandHalf_fit ht _
  | lhl => exact load_inv h fun _ ht => operandHalfZero_fit ht _
  | lb => exact load_inv h fun _ ht => operandByte_fit ht _
  | st => exact sequential_inv h fun _ ht => writeFull_fit ht _ _
  | sth => exact sequential_inv h fun _ ht => writeHalf_fit ht _ _
  | stb => exact sequential_inv h fun _ ht => writeByte_fit ht _ _
  | stbr => exact sequential_inv h fun _ ht => leaves_ok.2 (by simpa using ht)
  | lm => exact multiple_inv h fun _ _ ht => loadMultiple_fit ht _ _ _
  | stm => exact multiple_inv h fun _ _ ht => storeMultiple_fit ht _ _ _
  | copy => exact execCopy_inv h
  | ar | ais | ai | ahi => exact addTo_inv h fun _ ht => operandOf_fit ht _
  | a => exact addTo_inv h fun _ ht => operandFull_fit ht _
  | ah => exact addTo_inv h fun _ ht => operandHalf_fit ht _
  | am => exact execAm_inv h
  | ahm => exact execAhm_inv h
  | sr | sis | si | shi => exact subFrom_inv h fun _ ht => operandOf_fit ht _
  | s => exact subFrom_inv h fun _ ht => operandFull_fit ht _
  | sh => exact subFrom_inv h fun _ ht => operandHalf_fit ht _
  | clr | cli | clhi => exact compareLogical_inv h fun _ ht => operandOf_fit ht _
  | cl => exact compareLogical_inv h fun _ ht => operandFull_fit ht _
  | clh => exact compareLogical_inv h fun _ ht => operandHalf_fit ht _
  | clb => exact operate_inv h (fun _ ht => operandByte_fit ht _) (by simp)
  | cr | ci | chi => exact compareSigned_inv h fun _ ht => operandOf_fit ht _
  | c => exact compareSigned_inv h fun _ ht => operandFull_fit ht _
  | ch => exact compareSigned_inv h fun _ ht => operandHalf_fit ht _
  | mr => exact multiply_inv h fun _ ht => operandOf_fit ht _
  | m => exact multiply_inv h fun _ ht => operandFull_fit ht _
  | mhr => exact multiplyHalf_inv h fun _ ht => operandOf_fit ht _
  | mh => exact multiplyHalf_inv h fun _ ht => operandHalfZero_fit ht _
  | dr => exact divide_inv h fun _ ht => operandOf_fit ht _
  | d => exact divide_inv h fun _ ht => operandFull_fit ht _
  | dhr => exact divideByHalf_inv h fun _ ht => operandOf_fit ht _
  | dh => exact divideByHalf_inv h fun _ ht => operandHalf_fit ht _
  | nr | ni | nhi | or | oi | ohi | xr | xi | xhi => exact logical_inv h fun _ ht => operandOf_fit ht _
  | n | o | x => exact logical_inv h fun _ ht => operandFull_fit ht _
  | nh | oh | xh => exact logical_inv h fun _ ht => operandHalf_fit ht _
  | ti | thi => exact test_inv h fun _ ht => operandOf_fit ht _
  | arand => exact execArand_inv h
  | ts => exact operate_inv h (fun _ ht => testAndSetAt_fit ht _) (by simp)
  | tbt => exact operate_inv h (fun _ ht => readHalf_fit ht _) (by simp)
  | sbt | rbt | cbt => exact changeBit_inv h
  | sll | slls | srl | srls | sra => exact shiftFull_inv h
  | slhl | slhls | srhl | srhls => exact shiftHalf_inv h
  | rll | rrl => exact rotate_inv h
  | jt | jtr | jtbs | jtfs | nop | nopr | jn | jnr | jnbs | jnfs | jg | jgr | jgbs | jgfs
  | jl | jlr | jlbs | jlfs | jc | jcr | jcbs | jcfs => exact jumpTrue_inv h
  | jf | jfr | jfbs | jffs | j | jr | jbs | jfs | je | jer | jebs | jefs | jge | jger | jgebs | jgefs
  | jle | jler | jlebs | jlefs | jnc | jncr | jncbs | jncfs => exact jumpFalse_inv h
  | jal | jalr => exact jumpLink_inv h
  | jffo | jffoh => exact jumpFirstOne_inv h
  | lpsw => exact execLpsw_inv h
  | lpswr => exact privileged_inv h (transfer_inv h fun _ ht => loadPswAndPc_fit ht.fit _ _)
  | upsw => exact execUpsw_inv h
  | epsr => exact execEpsr_inv h
  | svc => exact execSvc_inv h
  | sbod => exact execSbod_inv h
  | xmit => exact execXmit_inv h
  | spm => exact execSpm_inv h
  | gchar => exact execGchar_inv h
  | scan => exact execScan_inv h
  | align => exact execAlign_inv h
  | cksum => exact execCksum_inv h
  | gci => exact execGci_inv h
  | wci => exact execWci_inv h
  | cbct => exact execCbct_inv h
  | rtd1 | rtd2 | rma1 | rma2 => exact recordInstr_inv h
  | cio => exact execCio_inv h
  | ssr => exact execSsr_inv h
  | rdr => exact execRdr_inv h
  | ocr | wdr => exact output_inv h fun _ ht => leaves_ok.2 ht
  | oc | wd => exact output_inv h fun _ ht => operandIo_fit ht _

/-! ## The fetch -/

/-- What a fetch comes to keeps the invariant, but for a MAC fault, whose interrupt is still to come. -/
def Fetched.Sound : Fetched → Prop
  | .instr _ t => t.Inv
  | .illegal t => t.Inv
  | .macFault t => t.Fit
  | .fault _ => True
  | .refused _ => True

theorem Fetched.of_sound (d : Decoded) {s : State} (h : s.Inv) : (Fetched.of d s).Sound := by
  cases d with
  | rx3Reserved => exact trivial
  | instr | illegal | short => exact h

/-- A read of absolute memory keeps the invariant. -/
theorem absReadHalf_inv {s : State} (h : s.Inv) (a : Addr) : (absReadHalf a s).Leaves State.Inv := by
  intro _ t e
  rcases absReadHalf_ok e with rfl | ⟨-, rfl⟩ <;> exact h

theorem fetchFrom_sound (n : Nat) (hs : List Half) (a : Addr) {s : State} (h : s.Inv) :
    (fetchFrom n hs a s).Sound := by
  induction n generalizing hs a s with
  | zero => exact Fetched.of_sound _ h
  | succ n ih =>
    unfold fetchFrom
    split
    · split
      · split
        · rename_i v t hr
          exact ih _ _ (absReadHalf_inv h _ _ _ hr)
        · exact trivial
        · exact trivial
      · exact (fit_raiseMac _).2 h.fit
    · exact Fetched.of_sound _ h

theorem runInstruction_inv {s : State} (h : s.Inv) : LeavesInv (runInstruction s) := by
  have sound : (fetchInstr s).Sound := fetchFrom_sound 3 [] s.pc (s := s.noteFetch) h
  unfold runInstruction
  cases hf : fetchInstr s with
  | instr i t =>
    rw [hf] at sound
    exact exec_inv i sound
  | illegal t =>
    rw [hf] at sound
    exact takeIllegal_inv (State.Inv.calm sound)
  | macFault t =>
    rw [hf] at sound
    exact endWithMac_inv (s := t.tick) sound.1 _ _
  | fault | refused => simp [LeavesInv]

/-! ## The boundary -/

section Boundary

variable {s : State} (h : s.Inv)

include h

theorem State.Inv.haltWith (code : BitVec 12) : (s.haltWith code).Inv := h

theorem State.Inv.nextEvents : s.nextEvents.Inv := by
  refine ⟨by simpa using h.1, by simpa using h.2.1, ?_⟩
  rw [State.nextEvents_pend]
  exact h.2.2

/-- A power restore keeps memory and the program counter, and resets the latch of the MAC (R520). -/
theorem State.Inv.losePower : s.losePower.Inv := ⟨h.1, h.2.1, rfl⟩

theorem absorb_inv (e : EnvEvent) : (absorb e s).Leaves State.Inv := by
  cases e with
  | dmaWrite a v =>
    intro _ t ht
    rcases absWriteHalf_ok ht with rfl | rfl
    · exact h
    · exact ⟨Memory.wf_setHalf h.1, h.2⟩
  | powerRestored => exact leaves_ok.2 h.losePower
  | _ => exact leaves_ok.2 h

omit h in
theorem absorbAll_inv (l : List EnvEvent) {s : State} (h : s.Inv) : (absorbAll l s).Leaves State.Inv := by
  induction l generalizing s with
  | nil => exact leaves_ok.2 h
  | cons e rest ih => exact (absorb_inv h e).bind fun _ _ ht => ih ht

theorem boundary_inv : (boundary s).Leaves State.Inv := absorbAll_inv _ h.nextEvents

theorem State.Inv.serviceStores (v : Service) (places : List Addr) : (s.serviceStores v places).Inv :=
  ⟨Memory.wf_scribbled _ _ _ h.1, h.2⟩

theorem State.Inv.syncInput (v : Service) : (s.syncInput v).Inv := by
  unfold State.syncInput
  split <;> exact h

omit h in
theorem asyncRegisters_inv (allowed : Nib → Bool) (l : List (Nib × Reg × Word)) {s : State} (h : s.Inv) :
    (asyncRegisters allowed l s).Inv := by
  induction l generalizing s with
  | nil => exact h
  | cons c rest ih =>
    refine ih ?_
    split <;> exact h

theorem State.Inv.asyncWrites (v : Service) : (s.asyncWrites v).Inv := by
  unfold State.asyncWrites
  split
  · exact asyncRegisters_inv _ _ (h.serviceStores v _)
  · exact asyncRegisters_inv _ _ ⟨Memory.wf_scribbled _ _ _ h.1, h.2⟩

theorem asyncService_inv (dev : Half) (v : Service) : LeavesInv (asyncService dev v s) := by
  have written := h.asyncWrites v
  unfold asyncService
  dsimp only
  split
  · split
    · exact (enterTimer_inv (s := (s.asyncWrites v).timerTick) written.calm).out
    · exact leavesInv_next.2 written
  · exact leavesInv_next.2 written

theorem takeConventional_inv (v : Service) (dev : Half) : LeavesInv (takeConventional v dev s) := by
  unfold takeConventional
  split
  · exact asyncService_inv h dev v
  · exact takeIo_inv h.calm _ _

theorem takeLevel0_inv (r : IoRequest) : LeavesInv (takeLevel0 r s) := by
  unfold takeLevel0
  split
  · exact leavesInv_next.2 (h.haltWith _)
  split
  · exact leavesInv_next.2 (h.haltWith _)
  · exact takeConventional_inv h _ _

theorem takeLevel1_inv (r : IoRequest) : LeavesInv (takeLevel1 r s) := by
  have input := h.syncInput r.service
  unfold takeLevel1
  split
  · exact leavesInv_next.2 (h.haltWith _)
  split
  · exact leavesInv_next.2 (h.haltWith _)
  split
  · exact leavesInv_next.2 (h.haltWith _)
  split
  · exact takeIo_inv h.calm _ _
  split
  · exact takeIo_inv input.calm _ _
  · exact leavesInv_next.2 (input.serviceStores _ _)

theorem takeLevel2_inv (r : IoRequest) : LeavesInv (takeLevel2 r s) := by
  unfold takeLevel2
  split
  · exact leavesInv_next.2 (h.haltWith _)
  · exact takeConventional_inv h _ _

theorem takeRequest_inv {o : Out} (ho : takeRequest s = some o) : LeavesInv o := by
  unfold takeRequest at ho
  split at ho
  · cases ho
    exact takeLevel0_inv (s := s.acknowledge .atn0) h _
  split at ho
  · cases ho
    exact takeLevel1_inv (s := s.acknowledge .atn1) h _
  split at ho
  · cases ho
    exact takeLevel2_inv (s := s.acknowledge .atn2) h _
  · cases ho

theorem takePending_inv {o : Out} (ho : takePending s = some o) : LeavesInv o := by
  unfold takePending at ho
  split at ho
  · cases ho
    exact leavesInv_next.2 (h.haltWith _)
  split at ho
  · cases ho
    simp [LeavesInv]
  split at ho
  · cases ho
    exact takeMachineMalfunction_inv h.calm _
  split at ho
  · cases ho
    exact takeMachineMalfunction_inv h.calm _
  split at ho
  · cases ho
    exact takeMac_inv h.1 _
  rcases Option.or_eq_some_iff.1 ho with hr | ⟨-, hs⟩
  · exact takeRequest_inv h hr
  · split at hs
    · cases hs
      simp [LeavesInv]
    · cases hs

theorem waitState_inv : LeavesInv (waitState s) := by
  unfold waitState
  split
  · simp [LeavesInv]
  · exact leavesInv_next.2 h

theorem afterBoundary_inv : LeavesInv (afterBoundary s) := by
  unfold afterBoundary
  split
  · exact leavesInv_next.2 h
  split
  · rename_i o ho
    exact takePending_inv h ho
  split
  · exact waitState_inv h
  · exact runInstruction_inv h

end Boundary

/-- Settles O3: the boundary, then what it takes or the instruction it lets run, each keeps the invariant. -/
theorem stepKeepsInv : Obligations.StepKeepsInv := by
  intro s t h e
  unfold step at e
  split at e
  · cases e
  split at e
  · rename_i u hu
    exact afterBoundary_inv (boundary_inv h _ u hu) t e
  · cases e
  · cases e

end Sys2Proof.Machine

/-! # Who reaches the display and the bus

By `exec_inside` every instruction but those of I/O leaves both alone. CIO works inside and on the display; the
six others put their operation on the bus and leave the display. -/

namespace Sys2Proof.Machine

/-- The display is as before (R47). -/
def State.SameDisplay (s t : State) : Prop :=
  t.displayLeft = s.displayLeft ∧ t.displayRight = s.displayRight

theorem State.StaysInside.display {s t : State} (h : s.StaysInside t) : s.SameDisplay t := ⟨h.2.1, h.2.2.1⟩

theorem State.StaysInside.bus {s t : State} (h : s.StaysInside t) :
    t.busIn = s.busIn ∧ t.busOut = s.busOut := h.2.2.2

theorem State.SameDisplay.trans {s t u : State} (h : s.SameDisplay t) (k : t.SameDisplay u) :
    s.SameDisplay u :=
  ⟨k.1.trans h.1, k.2.trans h.2⟩

section Io

variable {s t : State} {r1 r2 : Reg}

/-- A privileged instruction that does not transfer control leaves the display if its body does. -/
theorem privileged_display {len : Nat} {body : State → Res Unit}
    (hb : ∀ t u : State, body t = .ok () u → t.SameDisplay u)
    (e : privileged (sequential len body) s = .next t) : s.SameDisplay t := by
  rcases privileged_next e with e | e
  · exact (takeIllegal_inside s t e).display
  · obtain ⟨u, hu, ht⟩ := sequential_next e
    exact (hb s.begin u hu).trans ht.display

/-- What is written inside the Engine after a bus operation leaves the display. -/
theorem busTransact_display {op : BusOp} {u : State} (h : (busTransact op s).2.StaysInside u) :
    s.SameDisplay u :=
  State.SameDisplay.trans ⟨rfl, rfl⟩ h.display

/-- OC, OCR, WD and WDR. -/
theorem output_display {len : Nat} {op : Half → Half → BusOp} {operand : State → Res Half}
    (ho : ∀ t : State, t.RunsInside (operand t)) (e : output len op r1 operand s = .next t) :
    s.SameDisplay t := by
  refine privileged_display (fun t u h => ?_) e
  obtain ⟨v, w, hv, hu⟩ := Res.bind_eq_ok.1 h
  cases hu
  exact (ho t v w hv).display.trans (busTransact_display (op := op (t.device r1) v) (by simp [afterOutput]))

theorem execSsr_display (e : execSsr r1 r2 s = .next t) : s.SameDisplay t := by
  refine privileged_display (fun t u h => ?_) e
  cases h
  refine busTransact_display (op := .sense (t.device r1)) ?_
  split <;> simp

theorem execRdr_display (e : execRdr r1 r2 s = .next t) : s.SameDisplay t := by
  refine privileged_display (fun t u h => ?_) e
  cases h
  refine busTransact_display (op := .read (t.device r1)) ?_
  split <;> simp

theorem execCio_bus (e : execCio r1 r2 s = .next t) : t.busIn = s.busIn ∧ t.busOut = s.busOut := by
  obtain ⟨u, hu, ht⟩ := sequential_next e
  cases hu
  have written := State.StaysInside.trans ((inside_writeReg _ _).2 (.refl _)) ht
  exact written.bus

end Io

/-- Settles O6: the I/O instructions one by one, every other one by `exec_inside`. -/
theorem onlyIoReachesOut : Obligations.OnlyIoReachesOut := by
  intro i s t e
  cases i with
  | cio r1 r2 => exact ⟨fun h => absurd rfl (h r1 r2), .inl (execCio_bus e)⟩
  | ssr r1 r2 => exact ⟨fun _ => execSsr_display e, .inr ⟨r1, r2, .rx1 0 0, by simp⟩⟩
  | rdr r1 r2 => exact ⟨fun _ => execRdr_display e, .inr ⟨r1, r2, .rx1 0 0, by simp⟩⟩
  | ocr r1 r2 | wdr r1 r2 =>
    exact ⟨fun _ => output_display (fun t => runsInside_ok.2 (.refl t)) e, .inr ⟨r1, r2, .rx1 0 0, by simp⟩⟩
  | oc r1 rx | wd r1 rx =>
    exact ⟨fun _ => output_display (operandIo_inside _) e, .inr ⟨r1, 0, rx, by simp⟩⟩
  | _ => exact ⟨fun _ => (exec_inside rfl s t e).display, .inl (exec_inside rfl s t e).bus⟩

end Sys2Proof.Machine

/-! # Illegal instructions and console I/O

Privileged instructions in user mode, and special ones where they have no meaning, are the illegal instruction
interrupt and nothing else (R455, R370, R380, R383, R385); CIO on the display and the switches (R351). -/

namespace Sys2Proof.Machine

/-! ## What makes an instruction illegal -/

/-- An instruction that is the illegal instruction interrupt. -/
theorem takesIllegal_of {i : Instr} {s : State} (h : exec i s = takeIllegal s) : TakesIllegal i s :=
  fun _ _ hc => h.trans (takeIllegal_value hc)

section Illegal

variable {s : State} {meaning : State → Out}

theorem privileged_illegal (h : s.psw.p = true) : privileged meaning s = takeIllegal s := if_pos h

theorem asyncOnly_illegal (h : s.psw.a = false ∨ s.params.enhancedAsync = false) :
    asyncOnly meaning s = takeIllegal s := by
  rcases h with h | h <;> simp [asyncOnly, h]

theorem sinceS15_illegal (h : s.params.microcode = .belowS15) : sinceS15 meaning s = takeIllegal s := by
  simp [sinceS15, State.levelS15, h]

theorem execCksum_illegal {r1 r2 : Reg} (h : cksumLegal s.params.microcode (s.reg 0#4) = false) :
    execCksum r1 r2 s = takeIllegal s := by
  simp [execCksum, h]

end Illegal

/-- An odd word is odd as a signed number. -/
theorem odd_of_toInt {n : Word} (h : n.toInt % 2 = 1) : n.getLsbD 0 = true := by
  have hn := BitVec.toInt_eq_toNat_cond n
  simp only [BitVec.getLsbD, Nat.testBit_zero, decide_eq_true_eq]
  split at hn <;> omega

/-- At S.18 the count of CKSUM is an even number not above 0 (R383). -/
theorem cksumLegal_s18 {n : Word} (h : n.toInt % 2 = 1 ∨ 0 < n.toInt) : cksumLegal .s18 n = false := by
  rcases h with h | h
  · simp [cksumLegal, odd_of_toInt h]
  · simp [cksumLegal, Int.not_le.2 h]

/-- At S-15 the count of CKSUM is a number from -0x80 to 0 (R383). -/
theorem cksumLegal_s15 {n : Word} (h : 0 < n.toInt ∨ n.toInt < -0x80) : cksumLegal .s15 n = false := by
  rw [cksumLegal, Bool.and_eq_false_iff, decide_eq_false_iff_not, decide_eq_false_iff_not]
  omega

/-- Settles O53: each of the nine begins with the check of psw.P. -/
theorem privilegedTakesIllegal : Obligations.PrivilegedTakesIllegal := by
  intro s r1 r2 rx hp
  simp only [List.forall_mem_cons]
  refine ⟨?_, ?_, ?_, ?_, ?_, ?_, ?_, ?_, ?_, List.forall_mem_nil _⟩ <;>
    exact takesIllegal_of (privileged_illegal hp)

/-- Settles O57: by the check each of them begins with, the option's, the microcode level's or the count's. -/
theorem specialLegality : Obligations.SpecialLegality := by
  intro s r1 r2
  refine ⟨fun ha => ?async, fun hm => ?since, fun hm hn => ?s18, fun hm hn => ?s15⟩
  case async =>
    simp only [List.forall_mem_cons]
    refine ⟨?_, ?_, ?_, ?_, List.forall_mem_nil _⟩ <;> exact takesIllegal_of (asyncOnly_illegal ha)
  case since =>
    have count : cksumLegal s.params.microcode (s.reg 0#4) = false := by rw [hm, cksumLegal]
    simp only [List.forall_mem_cons]
    refine ⟨?copy, ?arand, ?scan, ?align, takesIllegal_of (execCksum_illegal count), ?gci, ?wci, ?cbct, ?rtd1,
      ?rtd2, ?rma1, ?rma2, List.forall_mem_nil _⟩
    all_goals exact takesIllegal_of (sinceS15_illegal hm)
  case s18 => exact takesIllegal_of (execCksum_illegal (by rw [hm, cksumLegal_s18 hn]))
  case s15 => exact takesIllegal_of (execCksum_illegal (by rw [hm, cksumLegal_s15 hn]))

/-- Settles O54: the body of CIO in a state in which nothing has faulted. -/
theorem consoleIo : Obligations.ConsoleIo := by
  intro s r1 r2
  have low (n : Nat) (w : Word) : w.setWidth n = w.extractLsb' 0 n := by
    ext i hi
    simp
  have image : (s.switches.setWidth 32 : Word) = BitVec.ofNat 32 s.switches.toNat := by
    rw [BitVec.ofNat_toNat]
  rw [exec_cio, execCio]
  refine sequential_ok (u := { s.begin with
    displayLeft := (s.reg (r1 + 1#4)).extractLsb' 0 20
    displayRight := (s.reg r1).extractLsb' 0 16 }.setReg r2 (BitVec.ofNat 32 s.switches.toNat)) ?_ rfl
  rw [State.writeReg_untainted _ _ _ (by rfl), ← low, ← low, ← image]
  rfl

end Sys2Proof.Machine

/-! # Translation

The fields of a program address and of a descriptor as numbers, and `relocate` by its first check that fails
(R90). -/

namespace Sys2Proof.Machine

theorem segmentOf_eq (va : Addr) : segmentOf va = BitVec.ofNat 4 (va.toNat / 65536) := by
  apply BitVec.eq_of_toNat_eq
  simp [segmentOf, Nat.shiftRight_eq_div_pow]

theorem pageOf_toNat (va : Addr) : (pageOf va).toNat = va.toNat / 256 % 256 := by
  simp [pageOf, Nat.shiftRight_eq_div_pow]

theorem byteOf_toNat (va : Addr) : (byteOf va).toNat = va.toNat % 256 := by
  simp [byteOf]

theorem limitField_toNat (d : Word) : (limitField d).toNat = d.toNat / 2 ^ 20 % 256 := by
  simp [limitField, Nat.shiftRight_eq_div_pow]

theorem baseField_toNat (d : Word) : (baseField d).toNat = d.toNat / 256 % 4096 := by
  simp [baseField, Nat.shiftRight_eq_div_pow]

/-- The limit check by the numbers of the two pages. -/
theorem limit_lt_page (d : Word) (va : Addr) :
    limitField d < pageOf va ↔ d.toNat / 2 ^ 20 % 256 < va.toNat / 256 % 256 := by
  rw [BitVec.lt_def, limitField_toNat, pageOf_toNat]

/-- The absolute address: page PP + KKK modulo 4096, byte BB (R90). -/
theorem absoluteAddr_eq (d : Word) (va : Addr) :
    ((pageOf va).setWidth 12 + baseField d) ++ byteOf va =
      BitVec.ofNat 20 ((va.toNat / 256 % 256 + d.toNat / 256 % 4096) % 4096 * 256 + va.toNat % 256) := by
  apply BitVec.eq_of_toNat_eq
  rw [BitVec.toNat_append, ← Nat.shiftLeft_add_eq_or_of_lt (byteOf va).isLt, Nat.shiftLeft_eq]
  simp only [BitVec.toNat_add, BitVec.toNat_setWidth, pageOf_toNat, baseField_toNat, byteOf_toNat,
    BitVec.toNat_ofNat]
  omega

section Relocate

variable {d : Word} {kind : Access} {va : Addr}

theorem relocate_notPresent (hp : present d = false) : relocate d kind va = .error .notPresent := by
  simp [relocate, hp]

theorem relocate_limit (hp : present d = true) (hl : limitField d < pageOf va) :
    relocate d kind va = .error .limit := by
  simp [relocate, hp, hl]

theorem relocate_execute (hp : present d = true) (hl : ¬limitField d < pageOf va)
    (hx : executeProtected d = true) : relocate d .fetch va = .error .execute := by
  simp [relocate, hp, hl, hx]

theorem relocate_write (hp : present d = true) (hl : ¬limitField d < pageOf va)
    (hw : writeProtected d = true) : relocate d .write va = .error .write := by
  simp [relocate, hp, hl, hw]

theorem relocate_ok (hp : present d = true) (hl : ¬limitField d < pageOf va)
    (hx : ¬(kind = .fetch ∧ executeProtected d = true)) (hw : ¬(kind = .write ∧ writeProtected d = true)) :
    relocate d kind va = .ok (((pageOf va).setWidth 12 + baseField d) ++ byteOf va) := by
  simp only [relocate, hp, hl, hx, hw, Bool.not_true, Bool.false_eq_true, if_false]

end Relocate

theorem translate_unrelocated {s : State} (h : s.psw.rp = false) (kind : Access) (va : Addr) :
    translate kind va s = .ok va := by
  simp [translate, h]

theorem translate_relocated {s : State} (h : s.psw.rp = true) (kind : Access) (va : Addr) :
    translate kind va s = relocate (s.descriptor (segmentOf va)) kind va := by
  simp [translate, h]

/-- Settles O18: the four checks of `relocate` in their order, then the address. -/
theorem translation : Obligations.Translation := by
  refine ⟨fun s kind va h => translate_unrelocated h kind va, fun s kind va d h hd => ?_⟩
  rw [translate_relocated h, segmentOf_eq, ← hd]
  dsimp only
  simp only [← limit_lt_page, ← Nat.not_lt]
  refine ⟨relocate_notPresent, relocate_limit, ?_, ?_, fun hp hl hx hw => ?_⟩
  · rintro hp hl rfl hx
    exact relocate_execute hp hl hx
  · rintro hp hl rfl hw
    exact relocate_write hp hl hw
  · rw [relocate_ok hp hl hx hw, absoluteAddr_eq]

end Sys2Proof.Machine

/-! # The step at a boundary without events

The wait state, the microcode halts, a MAC fault on the fetch, the machine malfunction interrupt: which pending
condition is taken, then what it leaves. -/

namespace Sys2Proof.Machine

/-! ## What stands at an absolute address of main memory -/

section Absolute

variable {s t : State} {a : Addr}

/-- Is it an absolute address that is no MAC register's? -/
def isMemory (a : Addr) : Bool := !isDescriptor a && !isMacOther a && !isMacReserved a

/-- Of memory what stands at an address depends on nothing else of the state. -/
theorem absHalf_memory (h : isMemory a = true) :
    s.absHalf a = if pagePresent s.params a then some (s.mem.half a) else none := by
  simp only [isMemory, Bool.and_eq_true, Bool.not_eq_true'] at h
  obtain ⟨⟨hd, ho⟩, hr⟩ := h
  simp [State.absHalf, State.readClears, hd, ho, hr]

theorem absHalf_congr (h : isMemory a = true) (hp : t.params = s.params) (hm : t.mem = s.mem) :
    t.absHalf a = s.absHalf a := by
  rw [absHalf_memory h, absHalf_memory h, hp, hm]

theorem absFull_congr (h0 : isMemory (evenAddr a) = true) (h2 : isMemory (evenAddr a + 2#20) = true)
    (hp : t.params = s.params) (hm : t.mem = s.mem) : t.absFull a = s.absFull a := by
  rw [State.absFull, State.absFull, absHalf_congr h0 hp hm, absHalf_congr h2 hp hm]

/-- The context at 0x90 and 0x94 is that of any state with the same memory (R465). -/
theorem macContext_congr {newPsw newPc : Word} (hp : t.params = s.params) (hm : t.mem = s.mem)
    (h : s.NewContext 0x90#20 0x94#20 newPsw newPc) : t.NewContext 0x90#20 0x94#20 newPsw newPc := by
  unfold State.NewContext at *
  rwa [absFull_congr (s := s) (by decide) (by decide) hp hm,
    absFull_congr (s := s) (by decide) (by decide) hp hm]

/-- A store to an address of present memory. -/
theorem absWriteHalf_memory {v : Half} (h : isMemory a = true) (hp : pagePresent s.params a = true) :
    absWriteHalf a v s = .ok () (s.setMem (s.mem.setHalf a v)) := by
  simp only [isMemory, Bool.and_eq_true, Bool.not_eq_true'] at h
  obtain ⟨⟨hd, ho⟩, hr⟩ := h
  simp [absWriteHalf, hd, ho, hr, hp]

/-- A fullword stored at an address of present memory, the left half first (R72). -/
theorem absWriteFull_memory {v : Word} (h0 : isMemory (evenAddr a) = true)
    (h2 : isMemory (evenAddr a + 2#20) = true) (hp0 : pagePresent s.params (evenAddr a) = true)
    (hp2 : pagePresent s.params (evenAddr a + 2#20) = true) :
    absWriteFull a v s =
      .ok () (s.setMem ((s.mem.setHalf (evenAddr a) (halfOf false v)).setHalf (evenAddr a + 2#20)
        (halfOf true v))) := by
  rw [absWriteFull, absWriteHalf_memory h0 hp0, Res.bind_ok, absWriteHalf_memory h2 (by simpa using hp2)]
  rfl

end Absolute

/-! ## No pending condition -/

/-- With nothing enabled pending, no machine malfunction is due at the boundary. -/
theorem malfunctionDue_of_none {s : State} (h : takePending s = none) (hb : s.parityBreak = none) :
    s.malfunctionDue = false := by
  unfold takePending at h
  split at h
  · cases h
  split at h
  · cases h
  split at h
  · cases h
  split at h
  · cases h
  rename_i hpar hpow
  simp only [State.malfunctionDue, hb, Option.any_none, Bool.or_false]
  cases hm : s.psw.m <;> simp_all

/-- At a quiet boundary the step is the next instruction. -/
theorem step_quiet {s : State} (h : s.Quiet) : step s = runInstruction s.nextEvents := by
  obtain ⟨hh, he, hp, hw⟩ := h
  rw [step_calm hh he, afterBoundary, hp]
  simp [hh, hw]

/-! ## A MAC fault on the fetch -/

/-- A fetch whose first halfword does not translate (R465). -/
theorem fetchInstr_macFault {s : State} {cause : MacCause}
    (h : translate .fetch (evenAddr s.pc) s = .error cause) :
    fetchInstr s = .macFault (s.noteFetch.raiseMac cause) := by
  have ht : translate .fetch (evenAddr s.pc) s.noteFetch = .error cause := h
  have short : decode [] = .short := by decide
  rw [fetchInstr, fetchFrom, if_pos short, ht]

/-- What a MAC fault records, where none is pending: the cause and the mark. -/
theorem raiseMac_first {s : State} (h : s.pend.mac = false) (cause : MacCause) :
    s.raiseMac cause = { s with
      macStatus :=
        (if s.params.macStatus.clear = .onNextFault then MacStatus.none else s.macStatus).add cause
      pend := { s.pend with mac := true } } := by
  simp [State.raiseMac, h]

@[simp] theorem raiseMac_params (s : State) (cause : MacCause) : (s.raiseMac cause).params = s.params := by
  unfold State.raiseMac
  split <;> rfl

@[simp] theorem raiseMac_mem (s : State) (cause : MacCause) : (s.raiseMac cause).mem = s.mem := by
  unfold State.raiseMac
  split <;> rfl

@[simp] theorem raiseMac_pc (s : State) (cause : MacCause) : (s.raiseMac cause).pc = s.pc := by
  unfold State.raiseMac
  split <;> rfl

/-- Where nothing was pending, a fault recorded before a free value is drawn is one recorded after it. -/
theorem raiseMac_tick {s : State} (h : s.pend.mac = false) (cause : MacCause) :
    (s.raiseMac cause).tick.setMacPending false = (s.tick.begin.raiseMac cause).setMacPending false := by
  rw [raiseMac_first h, raiseMac_first (s := s.tick.begin) rfl]
  rfl

/-- A MAC fault on the fetch is the MAC interrupt, where no machine malfunction is due (R465). -/
theorem takeMacOnFetch_value {v : State} {cause : MacCause} {newPsw newPc : Word} (hm : v.pend.mac = false)
    (hcur : v.params.macSavedPc = .current) (hd : v.malfunctionDue = false)
    (hc : v.NewContext 0x90#20 0x94#20 newPsw newPc) :
    takeMacOnFetch (v.noteFetch.raiseMac cause) =
      .next (v.noteFetch.tick.macTaken cause newPsw newPc v.pc) := by
  have saved (left : Addr) :
      macSavedPc (v.noteFetch.raiseMac cause).params (v.noteFetch.raiseMac cause).pc left = v.pc := by
    simp [macSavedPc, hcur]
  have due : (v.noteFetch.raiseMac cause).tick.malfunctionDue = false := by
    rw [raiseMac_first (s := v.noteFetch) hm]
    exact hd
  have ctx : (((v.noteFetch.tick.begin.raiseMac cause).setMacPending false).setMacWaiting false).NewContext
      0x90#20 0x94#20 newPsw newPc :=
    macContext_congr (by simp) (by simp) hc
  simp only [takeMacOnFetch, saved, endWithMac, due, Bool.false_eq_true, if_false, takeMac,
    raiseMac_tick (s := v.noteFetch) hm, swapToRegisters_value ctx]
  rfl

theorem evenAddr_of_even {a : Addr} (h : a.getLsbD 0 = false) : evenAddr a = a := by
  rw [BitVec.getLsbD, Nat.testBit_zero, decide_eq_false_iff_not] at h
  apply BitVec.eq_of_toNat_eq
  rw [evenAddr_toNat, evenBase]
  omega

/-- Settles O13: the fetch fails, no machine malfunction is due, and the MAC interrupt is taken. -/
theorem fetchFaultTakesMac : Obligations.FetchFaultTakesMac := by
  intro s cause newPsw newPc hq hinv ht hcur hctx
  have fails : translate .fetch (evenAddr s.nextEvents.pc) s.nextEvents = .error cause := by
    rw [State.nextEvents_pc, evenAddr_of_even hinv.2.1, ← ht]
    simp [translate, State.descriptor]
  rw [step_quiet hq, runInstruction, fetchInstr_macFault fails, ← State.nextEvents_pc s]
  exact takeMacOnFetch_value hinv.nextEvents.2.2 (by simpa using hcur)
    (malfunctionDue_of_none hq.2.2.1 s.nextEvents_parityBreak) (macContext_congr (by simp) (by simp) hctx)

/-! ## The machine malfunction interrupt -/

/-- The pages of two addresses are one. -/
theorem pagePresent_congr {p : Config.Params} {a b : Addr} (h : a.toNat / 256 = b.toNat / 256) :
    pagePresent p a = pagePresent p b := by
  simp [pagePresent, h]

/-- The interrupt, wherever the dedicated locations hold a usable context: the old PSW and location, or two free
words, are stored, then the new ones loaded (R460). -/
theorem takeMachineMalfunction_value (parity : Bool) {s u : State} {newPsw newPc oldPsw oldPc : Word}
    (hp : pagePresent s.params 0x20#20 = true) (h0 : oldPsw = if parity then s.psw.image else s.free)
    (h1 : oldPc = if parity then pcImage s.pc else s.tick.free)
    (hu : u = (if parity then s else s.tick.tick).setMem ((((s.mem.setHalf 0x20#20
      (halfOf false oldPsw)).setHalf 0x22#20 (halfOf true oldPsw)).setHalf 0x24#20
      (halfOf false oldPc)).setHalf 0x26#20 (halfOf true oldPc)))
    (hc : u.NewContext 0x38#20 0x3C#20 newPsw newPc) :
    takeMachineMalfunction parity s = .next
      { u with
        psw := { Psw.ofImage newPsw with c := false, v := false, g := parity, l := false }
        pend := if parity then { u.pend with parityError := false } else { u.pend with powerRestored := false }
        pc := pcOfImage newPc } := by
  obtain ⟨hpsw, hpc, heven⟩ := hc
  have page {a : Addr} (ha : a.toNat / 256 = 0) : pagePresent s.params a = true := by
    rw [pagePresent_congr (b := 0x20#20) (by rw [ha]; rfl), hp]
  generalize hv : (if parity then s else s.tick.tick) = v at hu
  have hvp : v.params = s.params := by rw [← hv]; split <;> rfl
  have hvm : v.mem = s.mem := by rw [← hv]; split <;> rfl
  have psw : absWriteFull 0x20#20 oldPsw v = .ok () (v.setMem ((s.mem.setHalf 0x20#20
      (halfOf false oldPsw)).setHalf 0x22#20 (halfOf true oldPsw))) := by
    rw [absWriteFull_memory (by decide) (by decide) (by rw [hvp]; exact page (by decide))
      (by rw [hvp]; exact page (by decide)), hvm]
    rfl
  have location : absWriteFull 0x24#20 oldPc (v.setMem ((s.mem.setHalf 0x20#20
      (halfOf false oldPsw)).setHalf 0x22#20 (halfOf true oldPsw))) = .ok () u := by
    rw [absWriteFull_memory (by decide) (by decide) (by rw [State.setMem_params, hvp]; exact page (by decide))
      (by rw [State.setMem_params, hvp]; exact page (by decide)), hu]
    rfl
  unfold takeMachineMalfunction
  dsimp only
  rw [← h0, ← h1, hv, psw, Res.bind_ok, location, Res.bind_ok, absReadFull_value hpsw, Res.bind_ok,
    absReadFull_value hpc, Res.bind_ok, enterAt_eq_ok.2 ⟨heven, rfl⟩]
  rfl

/-- The pending parity error after a boundary: what was pending, or what the instruction before latched. -/
theorem nextEvents_parityError {s : State} (h : s.pend.parityError = true) :
    s.nextEvents.pend.parityError = true := by
  unfold State.nextEvents State.reportParity
  split <;> simp [h]

theorem image_left (q : Psw) : halfOf false q.image = 0#16 := by
  ext i
  simp [halfOf, Psw.image]

theorem image_right (q : Psw) : halfOf true q.image = q.toBits := by
  ext i
  simp [halfOf, Psw.image]

theorem pcImage_right (a : Addr) : halfOf true (pcImage a) = a.setWidth 16 := by
  ext i hi
  simp [halfOf, pcImage]

/-- Settles O15: the condition that is taken, then the swap by `takeMachineMalfunction_value`. -/
theorem machineMalfunction : Obligations.MachineMalfunction := by
  refine ⟨fun s u newPsw newPc hh he hd ha hm hpar hp hu hc => ?_, fun s hh he hb hd ha hm hpar hpow hp => ?_⟩
  · have pend := s.nextEvents_pend
    have taken : takePending s.nextEvents = some (takeMachineMalfunction true s.nextEvents) := by
      have hd' : s.nextEvents.pend.earlyPowerDown = false := by rw [pend]; exact hd
      have ha' : s.nextEvents.pend.consoleAttention = false := by rw [pend]; exact ha
      simp [takePending, hd', ha', hm, nextEvents_parityError hpar]
    rw [step_calm hh he, afterBoundary, taken, State.nextEvents_halt, hh]
    refine takeMachineMalfunction_value true (by simpa using hp) rfl rfl ?_ hc
    rw [hu]
    simp only [if_true, image_left, image_right, pcImage_right, State.nextEvents_psw, State.nextEvents_mem,
      State.nextEvents_pc]
    rfl
  · have calm := State.nextEvents_calm hb
    have taken : takePending s.nextEvents = some (takeMachineMalfunction false s.nextEvents) := by
      simp [takePending, calm, hd, ha, hm, hpar, hpow]
    refine ⟨s.nextEvents.free, s.nextEvents.tick.free, fun u newPsw newPc hu hc => ?_⟩
    rw [step_calm hh he, afterBoundary, taken, State.nextEvents_halt, hh]
    refine takeMachineMalfunction_value false (by simpa using hp) rfl rfl ?_ hc
    rw [hu, State.nextEvents_mem]
    rfl

/-! ## The wait state and the microcode halts -/

/-- The wait state with nothing to take (R490). -/
theorem waitState_eq (s : State) :
    waitState s = if s.psw.i = false ∧ s.psw.m = false then .fault .waitingForever else .next s := by
  cases hi : s.psw.i <;> cases hm : s.psw.m <;> simp [waitState, hi, hm]

section Levels

variable {s : State} {r : IoRequest} (h : s.Requested r)

include h

theorem step_level0 (hl : r.level = .atn0) : step s = takeLevel0 r { s.nextEvents with requests := [] } := by
  obtain ⟨-, -, hb, -, one, on⟩ := id h
  rw [step_request h (takeRequest_level0 one on hl), State.nextEvents_calm hb]

theorem step_level1 (hl : r.level = .atn1) (ho : s.LevelOpen .atn1) :
    step s = takeLevel1 r { s.nextEvents with requests := [] } := by
  obtain ⟨-, -, hb, -, one, on⟩ := id h
  rw [step_request h (takeRequest_level1 one on hl ho), State.nextEvents_calm hb]

theorem step_level2 (hl : r.level = .atn2) (ho : s.LevelOpen .atn2) :
    step s = takeLevel2 r { s.nextEvents with requests := [] } := by
  obtain ⟨-, -, hb, -, one, on⟩ := id h
  rw [step_request h (takeRequest_level2 one on hl ho), State.nextEvents_calm hb]

end Levels

/-- Settles O14: what is taken at the boundary; of the levels, each halt by its condition. -/
theorem waitAndHalt : Obligations.WaitAndHalt := by
  refine ⟨fun s hh he hp hw => ?wait, fun s hh he hd => ?power, fun s code hh => ?halted, fun s r h => ?levels⟩
  case wait =>
    rw [step_calm hh he, afterBoundary, hp]
    simp [hh, hw, waitState_eq]
  case power =>
    have hd' : s.nextEvents.pend.earlyPowerDown = true := by rw [s.nextEvents_pend]; exact hd
    have taken : takePending s.nextEvents = some (.next (s.nextEvents.haltWith 0x060#12)) := if_pos hd'
    rw [step_calm hh he, afterBoundary, taken, State.nextEvents_halt, hh]
    rfl
  case halted => simp [step, hh]
  case levels =>
    refine ⟨fun hl => ?level0, fun hl ho => ?level1, fun hl ho hack => ?level2⟩
    case level0 =>
      rw [step_level0 h hl]
      refine ⟨fun ha hs => by simp [takeLevel0, ha, hs, State.haltWith], fun hopt hack => ?_⟩
      rcases hopt with ha | hs
      · simp [takeLevel0, ha, hack, State.haltWith]
      · simp [takeLevel0, hs, hack, State.haltWith]
    case level1 =>
      rw [step_level1 h hl ho]
      refine ⟨fun hs => ?_, fun hs hack => ?_, fun dev hs hack hd => ?_⟩
      · simp [takeLevel1, hs, State.haltWith]
      · simp [takeLevel1, hs, hack, State.haltWith]
      · simp [takeLevel1, hs, hack, isSyncDevice_eq, hd, State.haltWith]
    case level2 =>
      rw [step_level2 h hl ho]
      simp [takeLevel2, hack, State.haltWith]

end Sys2Proof.Machine

/-! # The MAC registers as memory

An unrelocated access to 0x300 to 0x3FF: what stands at each of its addresses, what a store replaces, and what
is refused (R43 to R45, R82, R96). -/

namespace Sys2Proof.Machine

/-! ## Halves of a fullword -/

theorem halves_of_word (w : Word) : halfOf false w ++ halfOf true w = w := by
  have low : halfOf true w = w.extractLsb' 0 16 := by
    rw [halfOf, if_pos rfl, BitVec.setWidth_eq_extractLsb' (by decide)]
  rw [low]
  exact (BitVec.extractLsb'_append_extractLsb'_eq_extractLsb' rfl).trans BitVec.extractLsb'_eq_self

/-- Both halves replaced, the left one first. -/
theorem withHalf_both (d w : Word) : withHalf true (withHalf false d (halfOf false w)) (halfOf true w) = w := by
  have left : (withHalf false d (halfOf false w)).extractLsb' 16 16 = halfOf false w :=
    BitVec.extractLsb'_append_eq_left
  calc withHalf true (withHalf false d (halfOf false w)) (halfOf true w)
      = (withHalf false d (halfOf false w)).extractLsb' 16 16 ++ halfOf true w := rfl
    _ = w := by rw [left, halves_of_word]

/-- What `CCload` sets is the sign of the value. -/
theorem signFlags_eq {w : Nat} (c : Bool) (v : BitVec w) : signFlags c v = ccOf c v.toInt := by
  have pos : (!v.msb && v != 0) = decide (0 < v.toInt) := by
    rw [Bool.eq_iff_iff, decide_eq_true_eq, BitVec.msb_eq_toInt]
    have zero : v = 0 ↔ v.toInt = 0 := by rw [← BitVec.toInt_inj]; simp
    simp only [Bool.and_eq_true, Bool.not_eq_true', decide_eq_false_iff_not, bne_iff_ne, ne_eq, zero]
    omega
  rw [signFlags, ccOf, ← pos, BitVec.msb_eq_toInt]

/-! ## Loads and stores by what they read and write -/

section Access

variable {s u : State} {r1 : Reg} {rx : RxAddr}

/-- A load whose operand is fetched without a fault (R150, R151). -/
theorem load_value {len : Nat} {operand : State → Res Word} {v : Word} (ho : operand s.begin = .ok v u)
    (hu : u.pend.mac = false) :
    load len operand r1 s =
      .next (((u.setReg r1 v).tick.setFlags (ccOf u.freeBit v.toInt)).setPc (nextAddr s.pc len)) := by
  refine sequential_ok (u := (u.setReg r1 v).tick.setFlags (ccOf u.freeBit v.toInt)) ?_ (by simpa using hu)
  rw [ho, Res.bind_ok, loadTo, State.writeReg_untainted _ _ _ hu,
    State.loadFlags_untainted _ _ (by simpa using hu), signFlags_eq]
  rfl

theorem execL_value {v : Word} (h : s.dataFull (s.effAddr rx) = some v) :
    exec (.l r1 rx) s = .next (s.loaded r1 v rx.length) :=
  load_value (operand := operandFull rx) (readFull_value (s := s.begin) rfl h) rfl

theorem execLh_value {h : Half} (hr : readHalf (s.effAddr rx) s.begin = .ok h u) (hu : u.pend.mac = false) :
    exec (.lh r1 rx) s = .next (((u.setReg r1 (h.signExtend 32)).tick.setFlags
      (ccOf u.freeBit (h.signExtend 32).toInt)).setPc (nextAddr s.pc rx.length)) := by
  refine load_value (operand := operandHalf rx) ?_ hu
  rw [operandHalf]
  exact Res.bind_eq_ok.2 ⟨h, u, hr, rfl⟩

theorem execSt_value (h : s.begin.storedFull (s.effAddr rx) (s.reg r1) = some u) (hu : u.pend.mac = false) :
    exec (.st r1 rx) s = .next (u.setPc (nextAddr s.pc rx.length)) :=
  sequential_ok (body := fun t => writeFull (t.effAddr rx) (t.reg r1) t) (writeFull_value rfl h) hu

theorem sequential_refused {len : Nat} {body : State → Res Unit} {f : Refusal}
    (h : body s.begin = .refused f) : sequential len body s = .refused f := by
  rw [sequential, h]
  rfl

end Access

/-! ## Unrelocated accesses -/

section Unrelocated

variable {s : State} (h : s.psw.rp = false) (ea : Word)

include h

theorem halfAt_unrelocated (kind : Access) (va : Addr) : s.halfAt kind va = s.absHalf (evenAddr va) := by
  rw [State.halfAt, translate_unrelocated h]

theorem dataHalf_unrelocated : s.dataHalf ea = s.absHalf (evenAddr (programAddr ea)) :=
  halfAt_unrelocated h _ _

theorem dataFull_unrelocated : s.dataFull ea = s.absFull (programAddr ea) := by
  rw [State.dataFull, halfAt_unrelocated h, halfAt_unrelocated h, evenAddr_add_two, State.absFull]

theorem storedAt_unrelocated (va : Addr) (v : Half) : s.storedAt va v = s.storedAbs (evenAddr va) v := by
  rw [State.storedAt, translate_unrelocated h]

theorem readHalf_unrelocated (hm : s.pend.mac = false) :
    readHalf ea s = absReadHalf (evenAddr (programAddr ea)) s := by
  simp [readHalf, readHalfAt, hm, translate_unrelocated h]

theorem writeHalf_unrelocated (hm : s.pend.mac = false) (v : Half) :
    writeHalf ea v s = absWriteHalf (evenAddr (programAddr ea)) v s := by
  simp [writeHalf, writeHalfAt, hm, translate_unrelocated h]

end Unrelocated

/-! ## Which register an address names -/

/-- The two halves of MAC register n (R43). -/
theorem descriptor_halves (n : Nib) :
    let a := evenAddr (programAddr (BitVec.ofNat 32 (0x300 + 4 * n.toNat)))
    isDescriptor a = true ∧ descriptorIndex a = n ∧ a.getLsbD 1 = false ∧
      isDescriptor (a + 2#20) = true ∧ descriptorIndex (a + 2#20) = n ∧ (a + 2#20).getLsbD 1 = true := by
  revert n
  decide

/-- The even address of a fullword or halfword below 2^20. -/
theorem evenAddr_low {ea : Word} (h : ea.toNat < 0x400) :
    (evenAddr (programAddr ea)).toNat = 2 * (ea.toNat / 2) := by
  rw [evenAddr_toNat, evenBase, programAddr, BitVec.toNat_setWidth]
  omega

theorem isDescriptor_eq_false {a : Addr} (h : 0x340 ≤ a.toNat) : isDescriptor a = false := by
  simp only [isDescriptor, Bool.and_eq_false_iff, decide_eq_false_iff_not, BitVec.le_def, BitVec.toNat_ofNat]
  omega

theorem isMacOther_eq {a : Addr} : isMacOther a = decide (0x340 ≤ a.toNat ∧ a.toNat ≤ 0x34F) := by
  simp [isMacOther, BitVec.le_def]

theorem isMacReserved_eq {a : Addr} : isMacReserved a = decide (0x350 ≤ a.toNat ∧ a.toNat ≤ 0x3FF) := by
  simp [isMacReserved, BitVec.le_def]

/-- A store to 0x340 to 0x34F is refused (R82, U13). -/
theorem absWriteHalf_macOther {a : Addr} {v : Half} {s : State} (h0 : 0x340 ≤ a.toNat) (h1 : a.toNat ≤ 0x34F) :
    absWriteHalf a v s = .refused .macRegisterWrite := by
  simp [absWriteHalf, isDescriptor_eq_false h0, isMacOther_eq, h0, h1]

/-- A store to 0x350 to 0x3FF is refused (C13). -/
theorem absWriteHalf_macReserved {a : Addr} {v : Half} {s : State} (h0 : 0x350 ≤ a.toNat)
    (h1 : a.toNat ≤ 0x3FF) : absWriteHalf a v s = .refused .macReserved := by
  have ho : isMacOther a = false := by rw [isMacOther_eq, decide_eq_false_iff_not]; omega
  simp [absWriteHalf, isDescriptor_eq_false (by omega : 0x340 ≤ a.toNat), ho, isMacReserved_eq, h0, h1]

/-- A read of 0x350 to 0x3FF is refused (C13). -/
theorem absReadHalf_macReserved {a : Addr} {s : State} (h0 : 0x350 ≤ a.toNat) (h1 : a.toNat ≤ 0x3FF) :
    absReadHalf a s = .refused .macReserved := by
  have ho : isMacOther a = false := by rw [isMacOther_eq, decide_eq_false_iff_not]; omega
  simp [absReadHalf, isDescriptor_eq_false (by omega : 0x340 ≤ a.toNat), ho, isMacReserved_eq, h0, h1]

/-- A halfword of 0x340 to 0x34F whose read clears nothing (R44, R45). -/
theorem absHalf_macOther {a : Addr} {s : State} (h0 : 0x340 ≤ a.toNat) (h1 : a.toNat ≤ 0x34F)
    (hc : s.readClears a = false) : s.absHalf a = some (halfOf (a.getLsbD 1) (s.macOther a)) := by
  simp [State.absHalf, hc, isDescriptor_eq_false h0, isMacOther_eq, h0, h1]

/-! ## What L and LH read there -/

section Registers

variable {s : State}

/-- Where no read clears the status, or the halfword is not of the status, reading clears nothing (D21). -/
theorem readClears_eq_false {a : Addr}
    (h : a.extractLsb' 2 2 ≠ 0#2 ∨ s.params.macStatus.clear ≠ .onRead (a.getLsbD 1)) :
    s.readClears a = false := by
  unfold State.readClears
  rcases h with h | h
  · simp [h]
  · rw [beq_eq_false_iff_ne.2 h, Bool.and_false]

/-- The status, and after it the last-fetch and parity registers, as fullwords (R44, R45). -/
theorem absFull_status (h : ∀ b, s.params.macStatus.clear ≠ .onRead b) :
    s.absFull 0x340#20 = some (s.macStatus.word s.params.macStatus) := by
  rw [State.absFull, absHalf_macOther (by decide) (by decide) (readClears_eq_false (.inr (h _))),
    absHalf_macOther (by decide) (by decide) (readClears_eq_false (.inr (h _)))]
  exact congrArg some (halves_of_word _)

theorem absFull_lastFetchAbs : s.absFull 0x344#20 = some s.lastFetchAbs := by
  rw [State.absFull, absHalf_macOther (by decide) (by decide) (readClears_eq_false (.inl (by decide))),
    absHalf_macOther (by decide) (by decide) (readClears_eq_false (.inl (by decide)))]
  exact congrArg some (halves_of_word _)

theorem absFull_parityAddr : s.absFull 0x348#20 = some s.parityAddr := by
  rw [State.absFull, absHalf_macOther (by decide) (by decide) (readClears_eq_false (.inl (by decide))),
    absHalf_macOther (by decide) (by decide) (readClears_eq_false (.inl (by decide)))]
  exact congrArg some (halves_of_word _)

theorem absFull_lastFetchVirt : s.absFull 0x34C#20 = some s.lastFetchVirt := by
  rw [State.absFull, absHalf_macOther (by decide) (by decide) (readClears_eq_false (.inl (by decide))),
    absHalf_macOther (by decide) (by decide) (readClears_eq_false (.inl (by decide)))]
  exact congrArg some (halves_of_word _)

/-- One half of the status is read, and perhaps cleared by that (R44, D21). -/
theorem absReadHalf_status (right : Bool) :
    absReadHalf (if right then 0x342#20 else 0x340#20) s =
      .ok (halfOf right (s.macStatus.word s.params.macStatus)) (s.afterStatusRead right) := by
  cases right <;> rfl

end Registers

/-! ## A store to a MAC register -/

theorem descriptor_setDescriptorHalf (s : State) (a : Addr) (v : Half) (k : Nib) :
    (s.setDescriptorHalf a v).descriptor k =
      if k = descriptorIndex a then withHalf (a.getLsbD 1) (s.descriptor (descriptorIndex a)) v
      else s.descriptor k := by
  rw [State.descriptor, State.setDescriptorHalf]
  by_cases hk : k = descriptorIndex a
  · simp [hk]
  · have hn : (descriptorIndex a).toNat ≠ k.toNat := fun e => hk (BitVec.eq_of_toNat_eq e.symm)
    simp [hk, hn, State.descriptor]

/-- A fullword stored at MAC register n replaces all of it and no other (R43, R96, D35). -/
theorem storedFull_descriptor {s : State} (h : s.psw.rp = false) (n : Nib) (v : Word) :
    ∃ d, s.storedFull (BitVec.ofNat 32 (0x300 + 4 * n.toNat)) v = some { s with macDesc := d } ∧
      ∀ k, { s with macDesc := d }.descriptor k = if k = n then v else s.descriptor k := by
  obtain ⟨hd0, hn0, hr0, hd2, hn2, hr2⟩ := descriptor_halves n
  generalize ha : programAddr (BitVec.ofNat 32 (0x300 + 4 * n.toNat)) = a at *
  let t := s.setDescriptorHalf (evenAddr a) (halfOf false v)
  let u := t.setDescriptorHalf (evenAddr a + 2#20) (halfOf true v)
  have head : s.storedAt a (halfOf false v) = some t := by
    rw [storedAt_unrelocated h, State.storedAbs, if_pos hd0]
  have second : t.storedAt (evenAddr a + 2#20) (halfOf true v) = some u := by
    rw [storedAt_unrelocated (s := t) h, evenAddr_add_two, State.storedAbs, if_pos hd2]
  refine ⟨u.macDesc, ?_, fun k => ?_⟩
  · rw [State.storedFull, ha]
    exact Option.bind_eq_some_iff.2 ⟨t, head, second⟩
  · change u.descriptor k = _
    rw [descriptor_setDescriptorHalf, descriptor_setDescriptorHalf, descriptor_setDescriptorHalf, hn0, hn2, hr0,
      hr2, if_pos rfl, withHalf_both]
    split <;> rfl

/-- Settles O19: the store by `storedFull_descriptor`, the reads by what stands at each address, the rest
refused. -/
theorem descriptorStore : Obligations.DescriptorStore := by
  intro s n r1 rx right h
  dsimp only
  have read {a : Addr} {v : Word} (ea : s.effAddr rx = a.setWidth 32) (hv : s.absFull a = some v) :
      exec (.l r1 rx) s = .next (s.loaded r1 v rx.length) := by
    refine execL_value ?_
    rw [dataFull_unrelocated h, ea, programAddr, BitVec.setWidth_setWidth_of_le _ (by decide),
      BitVec.setWidth_eq]
    exact hv
  have half (ea : s.effAddr rx = if right then 0x342#32 else 0x340#32) :
      readHalf (s.effAddr rx) s.begin =
        .ok (halfOf right (s.macStatus.word s.params.macStatus)) (s.begin.afterStatusRead right) := by
    rw [readHalf_unrelocated (s := s.begin) h _ rfl, ea, ← State.begin_params, ← State.begin_macStatus,
      ← absReadHalf_status]
    cases right <;> rfl
  refine ⟨fun ea => ?store, fun ea hc => read (a := 0x340#20) ea (absFull_status hc),
    fun ea => ⟨fun hc => ?clears, fun hc => ?keeps⟩, fun ea => read (a := 0x344#20) ea absFull_lastFetchAbs,
    fun ea => read (a := 0x348#20) ea absFull_parityAddr,
    fun ea => read (a := 0x34C#20) ea absFull_lastFetchVirt,
    fun h0 h1 => ?other, fun h0 h1 => ⟨?reservedStore, ?reservedLoad⟩⟩
  case store =>
    obtain ⟨d, hs, hd⟩ := storedFull_descriptor (s := s.begin) h n (s.reg r1)
    rw [← ea] at hs
    refine ⟨_, execSt_value hs rfl, (hd n).trans (if_pos rfl), fun k hk => (hd k).trans (if_neg hk), rfl⟩
  case clears =>
    have cleared : s.begin.afterStatusRead right = { s.begin with macStatus := MacStatus.none } := if_pos hc
    rw [execLh_value (half ea) (by rw [cleared]; rfl), cleared]
    cases right <;> rfl
  case keeps =>
    have kept : s.begin.afterStatusRead right = s.begin := if_neg hc
    rw [execLh_value (half ea) (by rw [kept]; rfl), kept]
    cases right <;> rfl
  case other =>
    have he : (evenAddr (programAddr (s.begin.effAddr rx))).toNat = 2 * ((s.effAddr rx).toNat / 2) :=
      evenAddr_low (ea := s.effAddr rx) (by omega)
    refine sequential_refused ?_
    exact (writeHalf_unrelocated (s := s.begin) h _ rfl _).trans
      (absWriteHalf_macOther (by omega) (by omega))
  case reservedStore =>
    have he : (evenAddr (programAddr (s.begin.effAddr rx))).toNat = 2 * ((s.effAddr rx).toNat / 2) :=
      evenAddr_low (ea := s.effAddr rx) (by omega)
    refine sequential_refused ?_
    exact (writeHalf_unrelocated (s := s.begin) h _ rfl _).trans
      (absWriteHalf_macReserved (by omega) (by omega))
  case reservedLoad =>
    have he := evenAddr_low (ea := s.effAddr rx) (by omega)
    have refused : readHalf (s.effAddr rx) s.begin = .refused .macReserved :=
      (readHalf_unrelocated (s := s.begin) h _ rfl).trans (absReadHalf_macReserved (by omega) (by omega))
    rw [exec_lh, execLh, load]
    refine sequential_refused ?_
    change ((readHalf (s.effAddr rx) s.begin).bind _).bind _ = _
    rw [refused]
    rfl

end Sys2Proof.Machine

/-! # LM

The registers that a number of transfers load, by induction on it, and the two ways in which LM ends where none
faults: whole, or abandoned by a parity error (R161). -/

namespace Sys2Proof.Machine

/-- The next register below register 15, and register 0 after it (R22). -/
theorem nextReg_toNat (r : Reg) : (nextReg r).toNat = (r.toNat + 1) % 16 := by
  simp [nextReg]

theorem loadMultiple_succ {n : Nat} {ea v : Word} {r : Reg} {s : State} (hm : s.pend.mac = false)
    (h : s.dataFull ea = some v) :
    loadMultiple (n + 1) ea r s = loadMultiple n (ea + 4#32) (nextReg r) (s.setReg r v) := by
  rw [loadMultiple, readFull_value hm h, Res.bind_ok, State.writeReg_untainted _ _ _ hm]

/-- `n` transfers from fullwords that can be read: these registers take them, nothing else changes (R161). -/
theorem loadMultiple_value {n : Nat} {ea : Word} {r : Reg} {w : Nat → Word} {s : State}
    (hm : s.pend.mac = false) (hn : r.toNat + n ≤ 16)
    (h : ∀ k, k < n → s.dataFull (ea + BitVec.ofNat 32 (4 * k)) = some (w k)) :
    ∃ regs, loadMultiple n ea r s = .ok () { s with regs := regs } ∧
      ∀ k x, { s with regs := regs }.regIn k x =
        if k = s.psw.rs ∧ r.toNat ≤ x.toNat ∧ x.toNat < r.toNat + n then w (x.toNat - r.toNat)
        else s.regIn k x := by
  induction n generalizing ea r w s with
  | zero => exact ⟨s.regs, rfl, fun k x => (if_neg (by omega)).symm⟩
  | succ n ih =>
    have head : s.dataFull ea = some (w 0) := by simpa using h 0 (Nat.succ_pos n)
    have rest (k : Nat) (hk : k < n) :
        (s.setReg r (w 0)).dataFull (ea + 4#32 + BitVec.ofNat 32 (4 * k)) = some (w (k + 1)) := by
      have step : ea + 4#32 + BitVec.ofNat 32 (4 * k) = ea + BitVec.ofNat 32 (4 * (k + 1)) := by
        rw [BitVec.add_assoc, Nat.mul_succ, Nat.add_comm, BitVec.ofNat_add]
      rw [step]
      exact h (k + 1) (Nat.succ_lt_succ hk)
    have next := nextReg_toNat r
    obtain ⟨regs, hl, hr⟩ := ih (r := nextReg r) (s := s.setReg r (w 0)) hm (by omega) rest
    refine ⟨regs, (loadMultiple_succ hm head).trans hl, fun k x => (hr k x).trans ?_⟩
    by_cases hx : k = s.psw.rs ∧ x = r
    · obtain ⟨rfl, rfl⟩ := hx
      rw [if_neg (by omega), if_pos ⟨rfl, Nat.le_refl _, by omega⟩, Nat.sub_self]
      exact State.regIn_setRegIn_same s _ _ _
    · have other : (s.setReg r (w 0)).regIn k x = s.regIn k x := State.regIn_setRegIn_other s _ _ _ _ _ hx
      have apart (hk : k = s.psw.rs) : x.toNat ≠ r.toNat := fun e => hx ⟨hk, BitVec.eq_of_toNat_eq e⟩
      rw [other, State.setReg_psw]
      by_cases hi : k = s.psw.rs ∧ r.toNat ≤ x.toNat ∧ x.toNat < r.toNat + (n + 1)
      · obtain ⟨hk, hlo, hhi⟩ := hi
        have := apart hk
        rw [if_pos ⟨hk, by omega, by omega⟩, if_pos ⟨hk, hlo, hhi⟩]
        congr 1
        omega
      · rw [if_neg hi, if_neg]
        rintro ⟨hk, hlo, hhi⟩
        exact hi ⟨hk, by omega, by omega⟩

section Multiple

variable {len n : Nat} {transfers : Nat → State → Res Unit} {s u : State}

/-- LM and STM whole, where no parity error that psw.M enables is to come and no transfer faults. -/
theorem multiple_whole (hb : s.parityBreak = none ∨ s.psw.m = false)
    (ht : transfers n s.begin = .ok () u) (hu : u.pend.mac = false) :
    multiple len n transfers s = .next (u.setPc (nextAddr s.pc len)) := by
  refine transfer_ok ?_ (by simpa using hu)
  rw [ht, Res.bind_ok, State.begin_parityBreak]
  rcases hb with hb | hb
  · rw [hb]
  · split
    · rw [if_neg (by simp [hb])]
    · rfl

/-- LM and STM abandoned by a parity error after a number of transfers, none of which faults (D29). -/
theorem multiple_abandoned {b : ParityBreak} (hb : s.parityBreak = some b) (hm : s.psw.m = true)
    (hn : b.transfers < n) (ht : transfers b.transfers s.begin = .ok () u) (hu : u.pend.mac = false) :
    multiple len n transfers s = .next (u.setPcEither s.pc (nextAddr s.pc len)) := by
  refine transfer_ok ?_ (by exact hu)
  dsimp only
  rw [State.begin_parityBreak, hb]
  dsimp only
  rw [if_pos ⟨hm, hn⟩, ht, Res.bind_ok, hu]
  rfl

end Multiple

/-- Settles O24: the transfers by `loadMultiple_value`, whole or as many as the parity error lets. -/
theorem loadMultipleWholeOrAbandoned : Obligations.LoadMultiple := by
  intro s r1 rx w n h
  rw [exec_lm, execLm]
  refine ⟨fun hn hb => ?whole, fun b hn hb hk hm => ?abandoned⟩
  case whole =>
    obtain ⟨regs, hl, hr⟩ := loadMultiple_value (s := s.begin) (r := r1) rfl (by omega) h
    have loaded := multiple_whole (len := rx.length)
      (transfers := fun n t => loadMultiple n (s.effAddr rx) r1 t) hb hl rfl
    rw [hn] at loaded
    refine ⟨_, loaded, rfl, fun k r => (hr k r).trans ?_⟩
    have bound : r1.toNat ≤ r.toNat ∧ r.toNat < r1.toNat + n ↔ r1.toNat ≤ r.toNat := by omega
    exact if_congr (and_congr_right fun _ => bound) rfl rfl
  case abandoned =>
    obtain ⟨regs, hl, hr⟩ := loadMultiple_value (s := s.begin) (r := r1) rfl (by omega) h
    rw [← hk] at hl
    have loaded := multiple_abandoned (len := rx.length)
      (transfers := fun n t => loadMultiple n (s.effAddr rx) r1 t) hb hm (hk ▸ hn) hl rfl
    refine ⟨_, loaded, ?_, rfl, hr⟩
    rw [State.setPcEither, State.setPc_pc]
    split
    · exact .inl rfl
    · exact .inr rfl

end Sys2Proof.Machine

/-! # The frame of the register instructions

What an instruction that touches no memory may write: registers of a list, of the selected set, the condition
code, the count of free values. -/

namespace Sys2Proof.Machine

/-- Registers of a list and the condition code have been written, and free values drawn. -/
def State.Wrote (ds : List Reg) (s t : State) : Prop :=
  t = { s with regs := t.regs, freeIx := t.freeIx,
               psw := { s.psw with c := t.psw.c, v := t.psw.v, g := t.psw.g, l := t.psw.l } } ∧
  ∀ k r, ¬(k = s.psw.rs ∧ r ∈ ds) → t.regIn k r = s.regIn k r

section Wrote

variable {ds : List Reg} {s t : State}

theorem State.Wrote.refl (ds : List Reg) (s : State) : s.Wrote ds s := ⟨rfl, fun _ _ _ => rfl⟩

theorem State.Wrote.pend (h : s.Wrote ds t) : t.pend = s.pend := by
  rw [h.1]

theorem State.Wrote.selected (h : s.Wrote ds t) : t.psw.rs = s.psw.rs := by
  rw [h.1]

theorem State.Wrote.tick (h : s.Wrote ds t) : s.Wrote ds t.tick := by
  refine ⟨?_, h.2⟩
  rw [h.1]
  rfl

theorem State.Wrote.setFlags (h : s.Wrote ds t) (f : Flags) : s.Wrote ds (t.setFlags f) := by
  refine ⟨?_, h.2⟩
  rw [h.1]
  rfl

theorem State.Wrote.setReg (h : s.Wrote ds t) {r : Reg} (hr : r ∈ ds) (v : Word) :
    s.Wrote ds (t.setReg r v) := by
  refine ⟨?_, fun k x hx => ?_⟩
  · rw [h.1]
    rfl
  · have other : ¬(k = t.psw.rs ∧ x = r) := by
      rintro ⟨hk, rfl⟩
      exact hx ⟨hk.trans h.selected, hr⟩
    exact (State.regIn_setRegIn_other t _ _ _ _ _ other).trans (h.2 k x hx)

theorem State.Wrote.writeReg (h : s.Wrote ds t) {r : Reg} (hr : r ∈ ds) (v : Word) :
    s.Wrote ds (t.writeReg r v) := by
  unfold State.writeReg
  split
  · exact h.tick.setReg hr _
  · exact h.setReg hr _

theorem State.Wrote.writeFlags (h : s.Wrote ds t) (f : Flags) : s.Wrote ds (t.writeFlags f) := by
  unfold State.writeFlags
  split
  · exact h.tick.setFlags _
  · exact h.setFlags _

theorem State.Wrote.loadFlags (h : s.Wrote ds t) (v : Word) : s.Wrote ds (t.loadFlags v) :=
  h.tick.writeFlags _

theorem State.Wrote.shiftFlags {w : Nat} (h : s.Wrote ds t) (last : Option Bool) (tested : BitVec w) :
    s.Wrote ds (t.shiftFlags last tested) := by
  cases last with
  | none => exact h.tick.writeFlags _
  | some c => exact h.writeFlags _

theorem State.Wrote.halfShiftFlags (h : s.Wrote ds t) (last : Option Bool) (v : Half) (w : Word) :
    s.Wrote ds (t.halfShiftFlags last v w) := by
  unfold State.halfShiftFlags
  split
  · exact h.shiftFlags _ _
  · exact h.shiftFlags _ _

end Wrote

/-! ## The shapes of instructions -/

section Shapes

variable {s t : State} {ds : List Reg} {len : Nat} {r1 : Reg}

/-- An instruction whose body writes registers and flags alone changes nothing else but the program counter. -/
theorem sequential_onlyRegs {body : State → Res Unit} {write : State → State}
    (hb : ∀ u : State, body u = .ok () (write u)) (hw : ∀ u : State, u.Wrote ds (write u))
    (e : sequential len body s = .next t) : s.OnlyRegs t ds := by
  have wrote := hw s.begin
  have done := sequential_ok (len := len) (hb s.begin) (by rw [wrote.pend]; rfl)
  rw [done] at e
  cases e
  refine ⟨?_, wrote.2⟩
  rw [wrote.1]
  rfl

theorem load_onlyRegs {f : State → Word} (e : load len (operandOf f) r1 s = .next t) : s.OnlyRegs t [r1] :=
  sequential_onlyRegs (fun _ => rfl) (fun u => ((State.Wrote.refl _ u).writeReg (by simp) _).loadFlags _) e

theorem logical_onlyRegs {g : Word → Word → Word} {f : State → Word}
    (e : logical g len (operandOf f) r1 s = .next t) : s.OnlyRegs t [r1] :=
  sequential_onlyRegs (fun _ => rfl) (fun u => ((State.Wrote.refl _ u).writeReg (by simp) _).loadFlags _) e

theorem addTo_onlyRegs {f : State → Word} (e : addTo len (operandOf f) r1 s = .next t) : s.OnlyRegs t [r1] :=
  sequential_onlyRegs (fun _ => rfl) (fun u => ((State.Wrote.refl _ u).writeReg (by simp) _).writeFlags _) e

theorem subFrom_onlyRegs {f : State → Word} (e : subFrom len (operandOf f) r1 s = .next t) :
    s.OnlyRegs t [r1] :=
  sequential_onlyRegs (fun _ => rfl) (fun u => ((State.Wrote.refl _ u).writeReg (by simp) _).writeFlags _) e

theorem multiplyHalf_onlyRegs {f : State → Word} (e : multiplyHalf len (operandOf f) r1 s = .next t) :
    s.OnlyRegs t [r1] :=
  sequential_onlyRegs (fun _ => rfl) (fun u => (State.Wrote.refl _ u).writeReg (by simp) _) e

theorem shiftFull_onlyRegs {one : Word → Bool × Word} {count : State → Nat}
    (e : shiftFull one len count r1 s = .next t) : s.OnlyRegs t [r1] :=
  sequential_onlyRegs (fun _ => rfl) (fun u => ((State.Wrote.refl _ u).writeReg (by simp) _).shiftFlags _ _) e

theorem shiftHalf_onlyRegs {one : Half → Bool × Half} {count : State → Nat}
    (e : shiftHalf one len count r1 s = .next t) : s.OnlyRegs t [r1] :=
  sequential_onlyRegs (fun _ => rfl)
    (fun u => ((State.Wrote.refl _ u).writeReg (by simp) _).halfShiftFlags _ _ _) e

theorem rotate_onlyRegs {one : Word → Bool × Word} {count : State → Nat}
    (e : rotate one len count r1 s = .next t) : s.OnlyRegs t [r1] :=
  sequential_onlyRegs (fun _ => rfl) (fun u => ((State.Wrote.refl _ u).writeReg (by simp) _).loadFlags _) e

theorem compareLogical_onlyRegs {f : State → Word} (e : compareLogical len (operandOf f) r1 s = .next t) :
    s.OnlyRegs t [] :=
  sequential_onlyRegs (fun _ => rfl) (fun u => (State.Wrote.refl _ u).writeFlags _) e

theorem compareSigned_onlyRegs {f : State → Word} (e : compareSigned len (operandOf f) r1 s = .next t) :
    s.OnlyRegs t [] :=
  sequential_onlyRegs (fun _ => rfl) (fun u => (State.Wrote.refl _ u).tick.writeFlags _) e

theorem test_onlyRegs {f : State → Word} (e : test len (operandOf f) r1 s = .next t) : s.OnlyRegs t [] :=
  sequential_onlyRegs (fun _ => rfl) (fun u => (State.Wrote.refl _ u).loadFlags _) e

end Shapes

/-! ## Multiplication and division -/

section Pairs

variable {s t : State} {len : Nat} {r1 : Reg} {f : State → Word}

theorem State.Wrote.writeDivision {ds : List Reg} (h : s.Wrote ds t) (h1 : r1 ∈ ds) (h2 : nextReg r1 ∈ ds)
    (q : Option (Word × Word)) : s.Wrote ds (t.writeDivision r1 q) := by
  cases q with
  | none => exact (h.tick.tick.writeReg h1 _).writeReg h2 _
  | some q => exact (h.writeReg h1 _).writeReg h2 _

@[simp] theorem State.writeReg_psw (s : State) (r : Reg) (v : Word) : (s.writeReg r v).psw = s.psw := by
  unfold State.writeReg
  split <;> rfl

@[simp] theorem State.writeDivision_psw (s : State) (r : Reg) (q : Option (Word × Word)) :
    (s.writeDivision r q).psw = s.psw := by
  cases q <;> simp [State.writeDivision]

/-- An instruction whose body writes a register and the one after it, and no flag. -/
theorem sequential_pair {body : State → Res Unit} {write : State → State}
    (hb : ∀ u : State, body u = .ok () (write u)) (hw : ∀ u : State, u.Wrote [r1, nextReg r1] (write u))
    (hp : ∀ u : State, (write u).psw = u.psw) (e : sequential len body s = .next t) :
    s.OnlyRegs t [r1, r1 + 1#4] ∧ t.psw = s.psw := by
  refine ⟨sequential_onlyRegs hb hw e, ?_⟩
  have done := sequential_ok (len := len) (hb s.begin) (by rw [(hw s.begin).pend]; rfl)
  rw [done] at e
  cases e
  exact hp s.begin

theorem multiply_pair (e : multiply len (operandOf f) r1 s = .next t) :
    s.OnlyRegs t [r1, r1 + 1#4] ∧ t.psw = s.psw :=
  sequential_pair (fun _ => rfl)
    (fun u => ((State.Wrote.refl _ u).writeReg (by simp) _).writeReg (by simp) _) (by simp) e

theorem divide_pair (e : divide len (operandOf f) r1 s = .next t) :
    s.OnlyRegs t [r1, r1 + 1#4] ∧ t.psw = s.psw :=
  sequential_pair (fun _ => rfl) (fun u => (State.Wrote.refl _ u).writeDivision (by simp) (by simp) _)
    (by simp) e

theorem divideByHalf_pair (e : divideByHalf len (operandOf f) r1 s = .next t) :
    s.OnlyRegs t [r1, r1 + 1#4] ∧ t.psw = s.psw :=
  sequential_pair (fun _ => rfl) (fun u => (State.Wrote.refl _ u).writeDivision (by simp) (by simp) _)
    (by simp) e

end Pairs

/-- Settles O47: each instruction by its shape. -/
theorem registerFrame : Obligations.RegisterFrame := by
  intro s t r1 r2 x2 n i16 i32 rx
  simp only [List.forall_mem_cons, exec_lr, exec_li, exec_lhi, exec_lis, exec_lcs, exec_la, exec_lbr,
    exec_lhr, exec_exhr, exec_exbr, exec_nr, exec_or, exec_xr, exec_ni, exec_oi, exec_xi, exec_nhi, exec_ohi,
    exec_xhi, exec_ar, exec_ais, exec_ai, exec_ahi, exec_sr, exec_sis, exec_si, exec_shi, exec_mhr, exec_sll,
    exec_srl, exec_sra, exec_slhl, exec_srhl, exec_rll, exec_rrl, exec_slls, exec_srls, exec_slhls,
    exec_srhls, exec_clr, exec_cr, exec_cli, exec_clhi, exec_ci, exec_chi, exec_ti, exec_thi, exec_mr,
    exec_dr, exec_dhr]
  refine ⟨⟨load_onlyRegs, load_onlyRegs, load_onlyRegs, load_onlyRegs, load_onlyRegs, load_onlyRegs,
      load_onlyRegs, load_onlyRegs, load_onlyRegs, load_onlyRegs, logical_onlyRegs, logical_onlyRegs,
      logical_onlyRegs, logical_onlyRegs, logical_onlyRegs, logical_onlyRegs, logical_onlyRegs, logical_onlyRegs,
      logical_onlyRegs, addTo_onlyRegs, addTo_onlyRegs, addTo_onlyRegs, addTo_onlyRegs, subFrom_onlyRegs,
      subFrom_onlyRegs, subFrom_onlyRegs, subFrom_onlyRegs, multiplyHalf_onlyRegs, shiftFull_onlyRegs,
      shiftFull_onlyRegs, shiftFull_onlyRegs, shiftHalf_onlyRegs, shiftHalf_onlyRegs, rotate_onlyRegs,
      rotate_onlyRegs, shiftFull_onlyRegs, shiftFull_onlyRegs, shiftHalf_onlyRegs, shiftHalf_onlyRegs,
      List.forall_mem_nil _⟩,
    ⟨compareLogical_onlyRegs, compareSigned_onlyRegs, compareLogical_onlyRegs, compareLogical_onlyRegs,
      compareSigned_onlyRegs, compareSigned_onlyRegs, test_onlyRegs, test_onlyRegs, List.forall_mem_nil _⟩,
    ⟨multiply_pair, divide_pair, divideByHalf_pair, List.forall_mem_nil _⟩⟩

end Sys2Proof.Machine

/-! # I/O interrupts

The conventional entry, the hand-over and the service of a sync interrupt, the async service: each by what it
leaves of the state in which the request has been acknowledged (R470, R476, R480). -/

namespace Sys2Proof.Machine

/-! ## The conventional entry (R470) -/

/-- The table's entry of a device: a halfword of main memory. -/
def ioEntryAt (dev : Half) : Addr := BitVec.ofNat 20 (0xD0 + 2 * (dev.toNat % 256))

theorem ioEntryAt_eq (dev : Half) :
    0xD0#20 + ((dev.setWidth 8 : Byte).setWidth 20) * 2#20 = ioEntryAt dev := by
  apply BitVec.eq_of_toNat_eq
  simp only [ioEntryAt, BitVec.toNat_add, BitVec.toNat_mul, BitVec.toNat_setWidth, BitVec.toNat_ofNat]
  omega

theorem ioEntryAt_memory (dev : Half) : isMemory (ioEntryAt dev) = true := by
  have bound : (ioEntryAt dev).toNat ≤ 0x2CE := by
    simp only [ioEntryAt, BitVec.toNat_ofNat]
    omega
  have hd : isDescriptor (ioEntryAt dev) = false := by
    simp only [isDescriptor, Bool.and_eq_false_iff, decide_eq_false_iff_not, BitVec.le_def, BitVec.toNat_ofNat]
    omega
  have ho : isMacOther (ioEntryAt dev) = false := by rw [isMacOther_eq, decide_eq_false_iff_not]; omega
  have hr : isMacReserved (ioEntryAt dev) = false := by rw [isMacReserved_eq, decide_eq_false_iff_not]; omega
  simp [isMemory, hd, ho, hr]

/-- The entry to the routine of a device, wherever the table holds an even location. -/
theorem takeIo_value {u : State} {dev entry : Half} (q : Psw) (h : u.absHalf (ioEntryAt dev) = some entry)
    (even : entry.getLsbD 0 = false) :
    takeIo q dev u = .next (((((u.setPsw q).setRegIn 0#4 0#4 u.psw.image).setRegIn 0#4 1#4
      (pcImage u.pc)).setRegIn 0#4 2#4 (dev.setWidth 32)).setPc (entry.setWidth 20)) := by
  have even' : (entry.setWidth 20 : Addr).getLsbD 0 = false := by simpa using even
  rw [takeIo, ioEntryAt_eq, absReadHalf_of_absHalf h, Res.bind_ok, enterAt_eq_ok.2 ⟨even', rfl⟩]
  rfl

/-! ## The services (R476, R480) -/

theorem deviceByte_eq_iff (dev : Half) (k : Byte) : deviceByte dev = k ↔ dev.toNat % 256 = k.toNat := by
  rw [← BitVec.toNat_inj, deviceByte, BitVec.toNat_setWidth]

theorem isAsyncTimer_eq (dev : Half) :
    isAsyncTimer dev = decide (0x70 ≤ dev.toNat % 256 ∧ dev.toNat % 256 ≤ 0x75) := by
  simp [isAsyncTimer, deviceByte, BitVec.le_def]

/-- No device of the 3600 interrupter is a sync card's. -/
theorem syncDevice_low {s : State} {dev : Half} (h : s.syncDevice dev = true) : dev.toNat % 256 ≤ 0x5F := by
  rw [State.syncDevice, Bool.and_eq_true, decide_eq_true_eq, decide_eq_true_eq] at h
  obtain ⟨-, hi⟩ := h
  split at hi <;> omega

theorem evenBase_evenAddr (a : Addr) : evenBase (evenAddr a) = evenBase a := by
  rw [← evenAddr_toNat, evenAddr_evenAddr, evenAddr_toNat]

/-- A service writes nothing but the halfwords at its places. -/
theorem serviceStores_read (s : State) (v : Service) (places : List Addr) {x : Nat}
    (hx : ∀ pa ∈ places, x ≠ evenBase pa ∧ x ≠ evenBase pa + 1) :
    (s.serviceStores v places).mem.read x = s.mem.read x := by
  refine Memory.read_scribbled_outside _ _ _ _ fun a pa ha => ?_
  split at ha
  · rename_i hc
    cases ha
    rw [← evenBase_evenAddr]
    exact hx _ (List.contains_iff_mem.1 hc)
  · cases ha

/-- The registers an async service writes are of the sets it may write, and nothing else changes. -/
theorem asyncRegisters_frame (allowed : Nib → Bool) (l : List (Nib × Reg × Word)) (s : State) :
    asyncRegisters allowed l s = { s with regs := (asyncRegisters allowed l s).regs } ∧
      ∀ k x, allowed k = false → (asyncRegisters allowed l s).regIn k x = s.regIn k x := by
  induction l generalizing s with
  | nil => exact ⟨rfl, fun _ _ _ => rfl⟩
  | cons c rest ih =>
    obtain ⟨k0, r, v⟩ := c
    rw [asyncRegisters]
    split
    · rename_i ha
      obtain ⟨hs, hr⟩ := ih (s.setRegIn k0 r v)
      refine ⟨hs, fun k x hk => (hr k x hk).trans (State.regIn_setRegIn_other s _ _ _ _ _ ?_)⟩
      rintro ⟨rfl, -⟩
      exact absurd (ha.symm.trans hk) (by decide)
    · exact ih s

theorem isAsyncSet_iff (k : Nib) : isAsyncSet k = true ↔ 1 ≤ k.toNat ∧ k.toNat ≤ 4 := by
  simp [isAsyncSet, BitVec.le_def]

/-- What an initialised async service may change: sets 1 to 4, and its storage in memory (R480). -/
theorem asyncWrites_frame {s : State} (h : s.asyncReady = true) (v : Service) :
    s.asyncWrites v = { s with regs := (s.asyncWrites v).regs, mem := (s.asyncWrites v).mem } ∧
    (∀ k x, ¬(1 ≤ k.toNat ∧ k.toNat ≤ 4) → (s.asyncWrites v).regIn k x = s.regIn k x) ∧
    ∀ x, (∀ pa ∈ s.asyncPlaces v, x ≠ evenBase pa ∧ x ≠ evenBase pa + 1) →
      (s.asyncWrites v).mem.read x = s.mem.read x := by
  obtain ⟨hs, hr⟩ := asyncRegisters_frame isAsyncSet v.asyncRegs (s.serviceStores v (s.asyncPlaces v))
  have written : s.asyncWrites v =
      asyncRegisters isAsyncSet v.asyncRegs (s.serviceStores v (s.asyncPlaces v)) := if_pos h
  rw [← written] at hs hr
  refine ⟨?_, fun k x hk => hr k x (Bool.eq_false_iff.2 fun e => hk ((isAsyncSet_iff k).1 e)), fun x hx => ?_⟩
  · rw [hs]
    rfl
  · rw [hs]
    exact serviceStores_read s v _ hx

/-- The count becomes negative at a tick when it was 0. -/
theorem becomesNegative_iff (count : Word) :
    (count - 1#32).msb = true ∧ count.msb = false ↔ count = 0#32 := by
  have := count.isLt
  rw [← BitVec.toNat_inj, BitVec.msb_eq_decide, BitVec.msb_eq_decide, decide_eq_true_eq,
    decide_eq_false_iff_not, BitVec.toNat_sub]
  simp only [BitVec.toNat_ofNat]
  omega

/-- Is the timer routine entered by an async service (R480)? -/
theorem timerTick_due {t : State} :
    (t.timerTick.timerDue && !(t.regIn 13#4 14#4).msb) = true ↔
      t.psw.rs = 15#4 ∧ t.regIn 13#4 14#4 = 0#32 := by
  have same : t.timerTick.timerDue = (t.psw.rs == 15#4 && (t.regIn 13#4 14#4 - 1#32).msb) := by
    rw [State.timerDue, State.timerTick, State.regIn_setRegIn_same]
    rfl
  rw [same, ← becomesNegative_iff]
  simp [and_assoc]

/-! ## The step that takes the request -/

/-- The state in which the one request has been acknowledged. -/
def State.acknowledged (s : State) : State := { s.nextEvents with requests := [] }

theorem State.acknowledged_eq {s : State} (h : s.parityBreak = none) :
    s.acknowledged = { s with env := s.env.tail, copyBreak := none, requests := [] } := by
  rw [State.acknowledged, State.nextEvents_calm h]

section Step

variable {s : State} {r : IoRequest} {dev : Half} (h : s.Requested r) (ho : s.LevelOpen r.level)
  (hack : r.ack = some dev)

include h ho hack

/-- A request that is taken without the sync microcode: conventional, but for the interrupter's devices. -/
theorem step_unhanded
    (hp : r.level = .atn1 → s.params.enhancedSync = true ∧ s.psw.s = false ∧ s.syncDevice dev = true)
    (h0 : r.level = .atn0 → s.params.enhancedAsync = true ∨ s.params.enhancedSync = true) :
    step s = takeConventional r.service dev s.acknowledged := by
  cases hl : r.level with
  | atn0 =>
    rw [step_level0 h hl, takeLevel0, hack]
    rcases h0 hl with ha | hs
    · simp [ha, State.acknowledged]
    · simp [hs, State.acknowledged]
  | atn1 =>
    obtain ⟨hs, hq, hd⟩ := hp hl
    have low := syncDevice_low hd
    have timer : isAsyncTimer dev = false := by rw [isAsyncTimer_eq, decide_eq_false_iff_not]; omega
    rw [step_level1 h hl (hl ▸ ho), takeLevel1, hack, takeConventional]
    simp [hs, hq, hd, isSyncDevice_eq, timer, State.acknowledged]
  | atn2 => rw [step_level2 h hl (hl ▸ ho), takeLevel2, hack, State.acknowledged]

/-- A sync card's request on level 1 with psw.S = 1: handed on, or serviced (R476). -/
theorem step_sync (hl : r.level = .atn1) (hs : s.params.enhancedSync = true) (hq : s.psw.s = true)
    (hd : s.syncDevice dev = true) :
    step s = if s.acknowledged.handsOn r.service then
        takeIo Psw.syncInterrupt dev (s.acknowledged.syncInput r.service)
      else .next ((s.acknowledged.syncInput r.service).serviceStores r.service
        (s.acknowledged.syncPlaces r.service)) := by
  rw [step_level1 h hl (hl ▸ ho), takeLevel1, hack]
  simp [hs, hq, hd, isSyncDevice_eq, State.acknowledged]

end Step

theorem takeConventional_plain {u : State} {v : Service} {dev : Half}
    (h : ¬(u.params.enhancedAsync = true ∧ 0x70 ≤ dev.toNat % 256 ∧ dev.toNat % 256 ≤ 0x75)) :
    takeConventional v dev u = takeIo Psw.ioInterrupt dev u := by
  rw [takeConventional, isAsyncTimer_eq, if_neg]
  simpa using h

theorem takeConventional_timer {u : State} {v : Service} {dev : Half}
    (h : u.params.enhancedAsync = true ∧ 0x70 ≤ dev.toNat % 256 ∧ dev.toNat % 256 ≤ 0x75) :
    takeConventional v dev u = asyncService dev v u := by
  rw [takeConventional, isAsyncTimer_eq, if_pos]
  simpa using h

theorem State.syncInput_mem (s : State) (v : Service) : (s.syncInput v).mem = s.mem := by
  unfold State.syncInput
  split <;> rfl

theorem State.syncInput_params (s : State) (v : Service) : (s.syncInput v).params = s.params := by
  unfold State.syncInput
  split <;> rfl

/-- The acknowledge and the input of a sync service do not meet. -/
theorem syncInput_acknowledged (s : State) (v : Service) :
    s.acknowledged.syncInput v = { s.nextEvents.syncInput v with requests := [] } := by
  unfold State.syncInput
  split <;> rfl

/-! ## The async service -/

section Timer

variable {u : State} {dev : Half} {v : Service}

/-- Any device but 75 is served, and the timer stays. -/
theorem asyncService_other (h : dev.toNat % 256 ≠ 0x75) :
    asyncService dev v u = .next (u.asyncWrites v) :=
  if_neg fun e => h ((deviceByte_eq_iff dev 0x75#8).1 e)

/-- Device 75 counts the timer down. -/
theorem asyncService_tick (h : dev.toNat % 256 = 0x75)
    (hd : ¬((u.asyncWrites v).psw.rs = 15#4 ∧ (u.asyncWrites v).regIn 13#4 14#4 = 0#32)) :
    asyncService dev v u = .next (u.asyncWrites v).timerTick :=
  (if_pos ((deviceByte_eq_iff dev 0x75#8).2 h)).trans (if_neg fun e => hd (timerTick_due.1 e))

/-- Device 75 makes the count negative in set F. -/
theorem asyncService_enter (h : dev.toNat % 256 = 0x75)
    (hd : (u.asyncWrites v).psw.rs = 15#4 ∧ (u.asyncWrites v).regIn 13#4 14#4 = 0#32) :
    asyncService dev v u = (enterTimer (u.asyncWrites v).timerTick).out :=
  (if_pos ((deviceByte_eq_iff dev 0x75#8).2 h)).trans (if_pos (timerTick_due.2 hd))

/-- The timer routine is entered where register 15 of set D holds an even location (R480). -/
theorem enterTimer_value (h : (u.regIn 13#4 15#4).getLsbD 0 = false) :
    enterTimer u = .ok () ((((u.setRegIn 13#4 0#4 u.psw.image).setRegIn 13#4 1#4 (pcImage u.pc)).setPsw
      { u.psw with rs := 13#4 }).setPc (pcOfImage (u.regIn 13#4 15#4))) :=
  enterAt_eq_ok.2 ⟨by simpa [pcOfImage] using h, rfl⟩

end Timer

section AsyncService

variable {u : State} {dev : Half} {v : Service} (h : u.asyncReady = true)

include h

/-- An async service that does not enter the timer routine. -/
theorem asyncService_quiet
    (hd : ¬(dev.toNat % 256 = 0x75 ∧ u.psw.rs = 15#4 ∧ u.regIn 13#4 14#4 = 0#32)) :
    ∃ t, asyncService dev v u = .next t ∧ t = { u with regs := t.regs, mem := t.mem } ∧
      t.regIn 13#4 14#4 =
        (if dev.toNat % 256 = 0x75 then u.regIn 13#4 14#4 - 1#32 else u.regIn 13#4 14#4) ∧
      (∀ k x, ¬(1 ≤ k.toNat ∧ k.toNat ≤ 4) → ¬(k = 13#4 ∧ x = 14#4) → t.regIn k x = u.regIn k x) ∧
      ∀ x, (∀ pa ∈ u.asyncPlaces v, x ≠ evenBase pa ∧ x ≠ evenBase pa + 1) →
        t.mem.read x = u.mem.read x := by
  obtain ⟨hs, hr, hm⟩ := asyncWrites_frame h v
  have count : (u.asyncWrites v).regIn 13#4 14#4 = u.regIn 13#4 14#4 := hr 13#4 14#4 (by decide)
  by_cases h75 : dev.toNat % 256 = 0x75
  · have late : ¬((u.asyncWrites v).psw.rs = 15#4 ∧ (u.asyncWrites v).regIn 13#4 14#4 = 0#32) := by
      rw [count, hs]
      exact fun e => hd ⟨h75, e⟩
    refine ⟨_, asyncService_tick h75 late, ?_, ?_, fun k x hk hx => ?_, hm⟩
    · rw [State.timerTick, hs]
      rfl
    · rw [if_pos h75, State.timerTick, State.regIn_setRegIn_same, count]
    · exact (State.regIn_setRegIn_other _ _ _ _ _ _ hx).trans (hr k x hk)
  · exact ⟨_, asyncService_other h75, hs, count.trans (if_neg h75).symm, fun k x hk _ => hr k x hk, hm⟩

/-- An async service that enters the timer routine, in set D. -/
theorem asyncService_due (hd : dev.toNat % 256 = 0x75 ∧ u.psw.rs = 15#4 ∧ u.regIn 13#4 14#4 = 0#32)
    (even : (u.regIn 13#4 15#4).getLsbD 0 = false) :
    ∃ t, asyncService dev v u = .next t ∧ t.psw = { u.psw with rs := 13#4 } ∧
      t.pc = (u.regIn 13#4 15#4).setWidth 20 ∧ t.regIn 13#4 0#4 = u.psw.image ∧
      t.regIn 13#4 1#4 = pcImage u.pc ∧ t.regIn 13#4 14#4 = 0xFFFFFFFF#32 := by
  obtain ⟨h75, hf, h0⟩ := hd
  obtain ⟨hs, hr, -⟩ := asyncWrites_frame h v
  have count : (u.asyncWrites v).regIn 13#4 14#4 = 0#32 := (hr 13#4 14#4 (by decide)).trans h0
  have psw : (u.asyncWrites v).psw = u.psw := by rw [hs]
  have pc : (u.asyncWrites v).pc = u.pc := by rw [hs]
  have place : (u.asyncWrites v).timerTick.regIn 13#4 15#4 = u.regIn 13#4 15#4 :=
    (State.regIn_setRegIn_other _ _ _ _ _ _ (by decide)).trans (hr 13#4 15#4 (by decide))
  have ticked : (u.asyncWrites v).timerTick.regIn 13#4 14#4 = 0xFFFFFFFF#32 := by
    rw [State.timerTick, State.regIn_setRegIn_same, count]
    rfl
  have entered := asyncService_enter (v := v) h75 ⟨by rw [psw]; exact hf, count⟩
  rw [enterTimer_value (by rw [place]; exact even)] at entered
  refine ⟨_, entered, ?_, congrArg pcOfImage place, ?_, ?_, ?_⟩
  · exact congrArg (fun q : Psw => { q with rs := 13#4 }) psw
  · exact (State.regIn_setRegIn_other _ _ _ _ _ _ (by decide)).trans
      ((State.regIn_setRegIn_same _ _ _ _).trans (congrArg Psw.image psw))
  · exact (State.regIn_setRegIn_same _ _ _ _).trans (congrArg pcImage pc)
  · exact (State.regIn_setRegIn_other _ _ _ _ _ _ (by decide)).trans
      ((State.regIn_setRegIn_other _ _ _ _ _ _ (by decide)).trans ticked)

end AsyncService

/-! ## The sync service -/

/-- Is the interrupt handed on, by the index that the line's direction names (R476)? -/
theorem handsOn_iff (s : State) (v : Service) :
    s.handsOn v = true ↔
      if v.output then s.serviceHalf v (s.lineDescriptor v + 4#32) = 0#16
      else (s.serviceHalf v (s.inputBlock v)).msb = true := by
  unfold State.handsOn State.lineIndexAddr
  cases v.output <;> simp

theorem syncPlaces_eq (s : State) (v : Service) :
    s.syncPlaces v = if v.output then s.servicePlaces v (s.lineDescriptor v + 4#32) 1
      else s.servicePlaces v (s.inputBlock v) 129 := by
  unfold State.syncPlaces State.lineIndexAddr
  cases v.output <;> rfl

/-- Settles O16: the step that takes the request, then the entry or the service it is. -/
theorem ioInterrupt : Obligations.IoInterrupt := by
  intro s r dev h ho hack
  dsimp only
  have taken := State.acknowledged_eq h.2.2.1
  refine ⟨fun entry hentry even => ⟨fun ht hp h0 => ?plain, fun hsync hon => ?handed⟩,
    fun hsync hon => ?serviced, fun ht hp ready => ?timer⟩
  case plain =>
    have stands : s.acknowledged.absHalf (ioEntryAt dev) = some entry :=
      (absHalf_congr (ioEntryAt_memory dev) (by rw [taken]) (by rw [taken])).trans hentry
    rw [step_unhanded h ho hack hp h0, takeConventional_plain (by rw [taken]; exact ht),
      takeIo_value _ stands even, State.acknowledged, State.nextEvents_calm h.2.2.1]
    rfl
  case handed =>
    obtain ⟨hl, hs, hq, hd⟩ := hsync
    have stands : (s.acknowledged.syncInput r.service).absHalf (ioEntryAt dev) = some entry :=
      (absHalf_congr (ioEntryAt_memory dev) (by rw [State.syncInput_params, taken])
        (by rw [State.syncInput_mem, taken])).trans hentry
    rw [step_sync h ho hack hl hs hq hd, if_pos (by rw [taken]; exact (handsOn_iff s r.service).2 hon),
      takeIo_value _ stands even, State.acknowledged, State.nextEvents_calm h.2.2.1]
    cases hw : r.service.syncInput <;> simp only [State.syncInput, hw] <;> rfl
  case serviced =>
    obtain ⟨hl, hs, hq, hd⟩ := hsync
    have stays : ¬s.acknowledged.handsOn r.service = true := by
      rw [taken]
      exact fun e => hon ((handsOn_iff s r.service).1 e)
    let u := s.acknowledged.syncInput r.service
    let places := s.acknowledged.syncPlaces r.service
    refine ⟨(u.serviceStores r.service places).mem, ?_, fun x hx => ?_⟩
    · rw [step_sync h ho hack hl hs hq hd, if_neg stays, syncInput_acknowledged]
      simp only [u, syncInput_acknowledged]
      rfl
    · have mem : u.mem = s.mem := by rw [State.syncInput_mem, taken]
      rw [serviceStores_read u r.service places, mem]
      simp only [places, taken]
      exact (syncPlaces_eq s r.service).symm ▸ hx
  case timer =>
    rw [step_unhanded h ho hack hp (fun _ => .inl ht.1), takeConventional_timer (by rw [taken]; exact ht),
      State.nextEvents_calm h.2.2.1, taken]
    exact ⟨asyncService_quiet (u := { s with env := s.env.tail, copyBreak := none, requests := [] }) ready,
      asyncService_due (u := { s with env := s.env.tail, copyBreak := none, requests := [] }) ready⟩

end Sys2Proof.Machine


/-! # Loads and stores

Each by its operand, where it can be read, and by the state that `storedFull`, `storedHalf` and `storedFulls`
name, where it can be stored (R152, R153, R160, R162, R166 to R170). -/

namespace Sys2Proof.Machine

/-- Settles O23: each load by `load_value`, its operand delivered without a fault. -/
theorem loadFromMemory : Obligations.LoadFromMemory := by
  intro s r1 rx w h b
  refine ⟨execL_value, fun hh => ⟨?half, ?halfZero⟩, fun hb => ?byte⟩
  case half => exact execLh_value (u := s.begin) (readHalf_value rfl hh) rfl
  case halfZero =>
    rw [BitVec.ofNat_toNat]
    refine load_value (operand := operandHalfZero rx) (u := s.begin) ?_ rfl
    exact Res.bind_eq_ok.2 ⟨h, s.begin, readHalf_value rfl hh, rfl⟩
  case byte =>
    rw [BitVec.ofNat_toNat]
    refine load_value (operand := operandByte rx) (u := s.begin) ?_ rfl
    exact Res.bind_eq_ok.2 ⟨b, s.begin, readByte_value rfl hb, rfl⟩

/-! ## What a store may change -/

theorem State.storedFull_pend {ea v : Word} {s t : State} (e : s.storedFull ea v = some t) :
    t.pend = s.pend := by
  obtain ⟨u, h1, h2⟩ := Option.bind_eq_some_iff.1 e
  rw [State.storedAt_pend h2, State.storedAt_pend h1]

/-- A halfword stored, at what it may change. -/
theorem State.storedAt_after {va : Addr} {h : Half} {s t : State} (hm : s.pend.mac = false)
    (e : s.storedAt va h = some t) : s.AfterAccess t :=
  writeHalfAt_after (writeHalfAt_value hm e)

theorem State.storedFull_after {ea v : Word} {s t : State} (hm : s.pend.mac = false)
    (e : s.storedFull ea v = some t) : s.AfterAccess t :=
  writeFull_after (writeFull_value hm e)

theorem State.AfterAccess.reg {s t : State} (h : s.AfterAccess t) (r : Reg) : t.reg r = s.reg r := by
  rw [h.1]
  rfl

/-! ## The stores of STM -/

/-- The register `k` after another, modulo 16 (R22). -/
def regAfter (r : Reg) (k : Nat) : Reg := BitVec.ofNat 4 (r.toNat + k)

theorem regAfter_zero (r : Reg) : regAfter r 0 = r := by simp [regAfter]

theorem regAfter_succ (r : Reg) (k : Nat) : regAfter (nextReg r) k = regAfter r (k + 1) := by
  apply BitVec.eq_of_toNat_eq
  rw [regAfter, regAfter, BitVec.toNat_ofNat, BitVec.toNat_ofNat, nextReg_toNat]
  omega

/-- The values of `n` registers from `r` on. -/
def State.regsFrom (s : State) (r : Reg) (n : Nat) : List Word :=
  (List.range n).map fun k => s.reg (regAfter r k)

theorem State.regsFrom_succ (s : State) (r : Reg) (n : Nat) :
    s.regsFrom r (n + 1) = s.reg r :: s.regsFrom (nextReg r) n := by
  simp only [State.regsFrom, List.range_succ_eq_map, List.map_cons, List.map_map, Function.comp_def,
    regAfter_zero, regAfter_succ]

/-- Where `storedFulls` names the state after them (R168). -/
theorem storeMultiple_value {n : Nat} {ea : Word} {r : Reg} {s t : State} (hm : s.pend.mac = false)
    (e : State.storedFulls (s.regsFrom r n) ea s = some t) :
    storeMultiple n ea r s = .ok () t ∧ t.pend = s.pend := by
  induction n generalizing ea r s with
  | zero => exact ⟨by cases e; rfl, by cases e; rfl⟩
  | succ n ih =>
    rw [State.regsFrom_succ] at e
    obtain ⟨u, h1, h2⟩ := Option.bind_eq_some_iff.1 e
    have kept : u.regsFrom (nextReg r) n = s.regsFrom (nextReg r) n :=
      List.map_congr_left fun k _ => (State.storedFull_after hm h1).reg _
    have pend := State.storedFull_pend h1
    obtain ⟨done, rest⟩ := ih (r := nextReg r) (by rw [pend, hm]) (by rwa [kept])
    refine ⟨?_, rest.trans pend⟩
    rw [storeMultiple, writeFull_value hm h1, Res.bind_ok, done]

/-! ## Bytes -/

/-- The bit of a 32-bit address that selects a byte. -/
theorem programAddr_bit (ea : Word) : (programAddr ea).getLsbD 0 = ea.getLsbD 0 := by
  simp [programAddr]

/-- Where `storedAt` names a state, the address translates and `storedAbs` names it (R71). -/
theorem State.storedAt_place {va : Addr} {h : Half} {s t : State} (e : s.storedAt va h = some t) :
    ∃ pa, translate .write (evenAddr va) s = .ok pa ∧ s.storedAbs pa h = some t := by
  unfold State.storedAt at e
  split at e
  · rename_i pa hp
    exact ⟨pa, hp, e⟩
  · cases e

/-- A byte written where `storedAt` names the state after the store of its halfword (R71). -/
theorem writeByte_value {ea : Word} {b : Byte} {h : Half} {s t : State} (hm : s.pend.mac = false)
    (hh : ∀ pa, translate .write (evenAddr (programAddr ea)) s = .ok pa → s.absHalf pa = some h)
    (e : s.storedHalf ea (withByteAt (programAddr ea) h b) = some t) : writeByte ea b s = .ok () t := by
  obtain ⟨pa, place, stored⟩ := State.storedAt_place e
  rw [writeByte, hm, place]
  exact Res.bind_eq_ok.2 ⟨h, s, absReadHalf_of_absHalf (hh pa place), absWriteHalf_iff.2 stored⟩

/-- The byte STBR tests is never negative (R170). -/
theorem signFlags_byte (c : Bool) (w : Word) :
    signFlags c ((w.setWidth 8 : Byte).setWidth 32 : Word) =
      { c := c, v := false, g := decide (w.toNat % 256 ≠ 0), l := false } := by
  have value : ((w.setWidth 8 : Byte).setWidth 32 : Word).toNat = w.toNat % 256 := by
    rw [BitVec.toNat_setWidth, BitVec.toNat_setWidth]
    omega
  have sign : ((w.setWidth 8 : Byte).setWidth 32 : Word).msb = false := by
    rw [BitVec.msb_eq_decide, value, decide_eq_false_iff_not]
    omega
  have zero : (((w.setWidth 8 : Byte).setWidth 32 : Word) != 0) = decide (w.toNat % 256 ≠ 0) := by
    rw [← value, Bool.eq_iff_iff, bne_iff_ne, decide_eq_true_eq]
    exact not_congr BitVec.toNat_eq
  rw [signFlags, sign, zero]
  rfl

/-! ## The instructions -/

/-- Settles O25: every store by the state that `storedFull`, `storedHalf` or `storedFulls` names. -/
theorem store : Obligations.Store := by
  intro s t r1 r2 rx h
  refine ⟨fun e => ?st, fun e => ?sth, fun hh e => ?stb,
    fun n e => ⟨fun hn hb => ?whole, fun b hn hb hk hm => ?part⟩, ?stbr⟩
  case st => exact execSt_value e (congrArg Pending.mac (State.storedFull_pend e))
  case sth =>
    exact sequential_ok (body := fun t => writeHalf (t.effAddr rx) (t.regHalf r1) t)
      (writeHalf_value rfl e) (congrArg Pending.mac (State.storedAt_pend e))
  case stb =>
    refine sequential_ok (body := fun t => writeByte (t.effAddr rx) ((t.reg r1).setWidth 8) t)
      (writeByte_value rfl hh ?_) (congrArg Pending.mac (State.storedAt_pend e))
    rw [← e, withByteAt, programAddr_bit, BitVec.setWidth_eq_extractLsb' (by decide),
      BitVec.setWidth_eq_extractLsb' (by decide)]
    rfl
  case whole =>
    obtain ⟨done, pend⟩ := storeMultiple_value (s := s.begin) (r := r1) rfl e
    rw [hn] at done
    exact multiple_whole (transfers := fun n t => storeMultiple n (s.effAddr rx) r1 t) hb done
      (congrArg Pending.mac pend)
  case part =>
    obtain ⟨done, pend⟩ := storeMultiple_value (s := s.begin) (r := r1) rfl e
    rw [← hk] at done hn
    have left := multiple_abandoned (len := rx.length)
      (transfers := fun n t => storeMultiple n (s.effAddr rx) r1 t) hb hm hn done (congrArg Pending.mac pend)
    rw [State.setPcEither] at left
    split at left
    · exact .inl left
    · exact .inr left
  case stbr =>
    rw [exec_stbr, execStbr]
    refine sequential_ok (u := (s.begin.setReg r2 _).tick.setFlags _) ?_ rfl
    rw [State.writeReg_untainted _ _ _ (by rfl), State.loadFlags_untainted _ _ (by rfl), signFlags_byte,
      BitVec.setWidth_eq_extractLsb' (by decide)]
    rfl

end Sys2Proof.Machine

/-! # Bytes, halfwords and fullwords of one store

What an unrelocated store of a fullword to main memory leaves, read again at each width (R64, R65). -/

namespace Sys2Proof.Machine

/-! ## Addresses of main memory -/

theorem isPlain_eq (p : Config.Params) (a : Addr) : isPlain p a = (isMemory a && pagePresent p a) := rfl

/-- Main memory is not what the MAC's registers are, at 0x300 to 0x3FF (R43 to R45, C13). -/
theorem isMemory_eq (a : Addr) : isMemory a = decide (a.toNat < 0x300 ∨ 0x3FF < a.toNat) := by
  rw [isMemory, isMacOther_eq, isMacReserved_eq, isDescriptor, Bool.eq_iff_iff]
  simp only [BitVec.le_def, BitVec.toNat_ofNat, Bool.and_eq_true, Bool.not_eq_true',
    Bool.and_eq_false_iff, decide_eq_true_eq, decide_eq_false_iff_not]
  omega

/-- Whether an address is one of present main memory depends on its page alone. -/
theorem isPlain_congr {p : Config.Params} {a b : Addr} (h : a.toNat / 256 = b.toNat / 256) :
    isPlain p a = isPlain p b := by
  have memory : isMemory a = isMemory b := by
    rw [isMemory_eq, isMemory_eq, decide_eq_decide]
    omega
  rw [isPlain_eq, isPlain_eq, memory, pagePresent_congr h]

section Plain

variable {s : State} {a : Addr} (h : isPlain s.params a = true)

include h

theorem absHalf_plain : s.absHalf a = some (s.mem.half a) := by
  rw [isPlain_eq, Bool.and_eq_true] at h
  rw [absHalf_memory h.1, if_pos h.2]

theorem storedAbs_plain (v : Half) : s.storedAbs a v = some (s.setMem (s.mem.setHalf a v)) := by
  rw [isPlain_eq, Bool.and_eq_true] at h
  exact absWriteHalf_iff.1 (absWriteHalf_memory h.1 h.2)

end Plain

/-! ## The two halfwords of a fullword -/

/-- Memory after a fullword has been stored at an even address: its left half there, its right half after it. -/
def Memory.setFull (m : Memory) (a : Addr) (v : Word) : Memory :=
  (m.setHalf a (halfOf false v)).setHalf (a + 2#20) (halfOf true v)

section Fullword

variable {s : State} {ea : Word} (hp : s.psw.rp = false) (h4 : ea.toNat % 4 = 0)
  (hm : isPlain s.params (programAddr ea) = true)

include h4

/-- The two left bytes of a fullword at a multiple of 4 are in the halfword there, the two right ones in the
halfword after it (R64). -/
theorem evenAddr_in_fullword {k : Nat} (hk : k < 4) :
    evenAddr (programAddr (ea + BitVec.ofNat 32 k)) = programAddr ea + BitVec.ofNat 20 (2 * (k / 2)) := by
  apply BitVec.eq_of_toNat_eq
  rw [evenAddr_toNat, evenBase, programAddr, programAddr, BitVec.toNat_add, BitVec.toNat_setWidth,
    BitVec.toNat_setWidth, BitVec.toNat_add, BitVec.toNat_ofNat, BitVec.toNat_ofNat]
  omega

theorem evenAddr_multiple : evenAddr (programAddr ea) = programAddr ea := by
  simpa using evenAddr_in_fullword h4 (k := 0) (by decide)

theorem evenAddr_multiple_right : evenAddr (programAddr ea + 2#20) = programAddr ea + 2#20 := by
  rw [← evenAddr_multiple h4, evenAddr_add_two]

include hm

theorem isPlain_in_fullword {k : Nat} (hk : k < 4) :
    isPlain s.params (programAddr ea + BitVec.ofNat 20 (2 * (k / 2))) = true := by
  refine (isPlain_congr ?_).trans hm
  rw [BitVec.toNat_add, programAddr, BitVec.toNat_setWidth, BitVec.toNat_ofNat]
  omega

include hp

/-- The halfword that holds byte `k` of a fullword in main memory. -/
theorem dataHalf_in_fullword {k : Nat} (hk : k < 4) :
    s.dataHalf (ea + BitVec.ofNat 32 k) =
      some (s.mem.half (programAddr ea + BitVec.ofNat 20 (2 * (k / 2)))) := by
  rw [dataHalf_unrelocated hp, evenAddr_in_fullword h4 hk, absHalf_plain (isPlain_in_fullword h4 hm hk)]

/-- Byte `k` of a fullword in main memory: in its halfword, on the left if `k` is even (R70). -/
theorem dataByte_in_fullword {k : Nat} (hk : k < 4) :
    s.dataByte (ea + BitVec.ofNat 32 k) =
      some (byteAt (BitVec.ofNat 20 k) (s.mem.half (programAddr ea + BitVec.ofNat 20 (2 * (k / 2))))) := by
  have side : (programAddr (ea + BitVec.ofNat 32 k)).getLsbD 0 = (BitVec.ofNat 20 k).getLsbD 0 := by
    rw [programAddr_bit, BitVec.getLsbD, BitVec.getLsbD, Nat.testBit_zero, Nat.testBit_zero, decide_eq_decide,
      BitVec.toNat_add, BitVec.toNat_ofNat, BitVec.toNat_ofNat]
    omega
  rw [State.dataByte, dataHalf_in_fullword hp h4 hm hk, Option.map_some, byteAt, side, byteAt]

theorem dataFull_plain :
    s.dataFull ea = some (s.mem.half (programAddr ea) ++ s.mem.half (programAddr ea + 2#20)) := by
  have right : isPlain s.params (programAddr ea + 2#20) = true := isPlain_in_fullword h4 hm (k := 2) (by decide)
  rw [dataFull_unrelocated hp, State.absFull, evenAddr_multiple h4, absHalf_plain hm, Option.bind_some,
    absHalf_plain right, Option.map_some]

/-- A fullword stored at a multiple of 4 in main memory (R71). -/
theorem storedFull_plain (v : Word) :
    s.storedFull ea v = some (s.setMem (s.mem.setFull (programAddr ea) v)) := by
  have right : isPlain s.params (programAddr ea + 2#20) = true := isPlain_in_fullword h4 hm (k := 2) (by decide)
  rw [State.storedFull, storedAt_unrelocated hp, evenAddr_multiple h4, storedAbs_plain hm, Option.bind_some,
    storedAt_unrelocated (by exact hp), evenAddr_multiple_right h4, storedAbs_plain (by exact right)]
  rfl

end Fullword

section Canonical

variable {m : Memory} (h : m.wf = true) {a : Addr} (ha : a.toNat % 4 = 0) (v : Word)

include h

theorem Memory.half_setFull_right : (m.setFull a v).half (a + 2#20) = halfOf true v :=
  Memory.half_setHalf_same (Memory.wf_setHalf h)

include ha

theorem Memory.half_setFull_left : (m.setFull a v).half a = halfOf false v := by
  have apart : evenBase a ≠ evenBase (a + 2#20) := by
    simp only [evenBase, BitVec.toNat_add, BitVec.toNat_ofNat]
    omega
  rw [Memory.setFull, Memory.half_setHalf_other apart, Memory.half_setHalf_same h]

end Canonical

/-- Settles O17: the store by `storedFull_plain`, then each byte by the halfword that holds it. -/
theorem mixedWidths : Obligations.MixedWidths := by
  intro s r1 rx hp hw h4 hm hv
  generalize he : s.effAddr rx = ea at *
  have stored := storedFull_plain (s := s.begin) hp h4 hm (s.reg r1)
  rw [← he] at stored
  refine ⟨_, execSt_value stored rfl, ?_⟩
  rw [he, hv, State.begin_mem]
  generalize ht : State.setPc _ _ = t
  have tp : t.psw.rp = false := by rw [← ht]; exact hp
  have tm : isPlain t.params (programAddr ea) = true := by rw [← ht]; exact hm
  have mem : t.mem = s.mem.setFull (programAddr ea) 0x11223344#32 := by rw [← ht]; rfl
  have multiple : (programAddr ea).toNat % 4 = 0 := by
    rw [programAddr, BitVec.toNat_setWidth]
    omega
  have left : t.mem.half (programAddr ea) = 0x1122#16 := by
    rw [mem, Memory.half_setFull_left hw multiple]
    rfl
  have right : t.mem.half (programAddr ea + 2#20) = 0x3344#16 := by
    rw [mem, Memory.half_setFull_right hw]
    rfl
  have byte {k : Nat} (hk : k < 4) := dataByte_in_fullword tp h4 tm hk
  have half {k : Nat} (hk : k < 4) := dataHalf_in_fullword tp h4 tm hk
  refine ⟨?_, ?_, ?_, ?_, ?_, ?_, (dataFull_plain tp h4 tm).trans (by rw [left, right]; rfl)⟩
  · simpa [left, byteAt] using byte (k := 0) (by decide)
  · simpa [left, byteAt] using byte (k := 1) (by decide)
  · simpa [right, byteAt] using byte (k := 2) (by decide)
  · simpa [right, byteAt] using byte (k := 3) (by decide)
  · simpa [left] using half (k := 0) (by decide)
  · simpa [right] using half (k := 2) (by decide)

end Sys2Proof.Machine

/-! # The frame of the stores to main memory

Where an operand is stored in main memory it can be read too, and the store changes memory alone: the bytes of
the operand's halfwords (R71). -/

namespace Sys2Proof.Machine

/-! ## Accesses to main memory -/

/-- What can be stored at a program address can be read there (R90). -/
theorem translate_read_of_write {va pa : Addr} {s : State} (h : translate .write va s = .ok pa) :
    translate .read va s = .ok pa := by
  cases hp : s.psw.rp with
  | false => rwa [translate_unrelocated hp] at h ⊢
  | true =>
    rw [translate_relocated hp] at h ⊢
    generalize s.descriptor (segmentOf va) = d at *
    unfold relocate at *
    by_cases h1 : present d <;> by_cases h2 : limitField d < pageOf va <;> by_cases h3 : writeProtected d <;>
      simp_all

section Plain

variable {s : State} {va pa : Addr} (hm : s.pend.mac = false) (ht : translate .write va s = .ok pa)
  (hp : isPlain s.params pa = true)

include hm ht hp

theorem writeHalfAt_plain (v : Half) : writeHalfAt va v s = .ok () (s.setMem (s.mem.setHalf pa v)) := by
  rw [writeHalfAt, hm, ht]
  exact absWriteHalf_iff.2 (storedAbs_plain hp v)

theorem readHalfAt_plain : readHalfAt .read va s = .ok (s.mem.half pa) s := by
  rw [readHalfAt, hm, translate_read_of_write ht]
  exact absReadHalf_of_absHalf (absHalf_plain hp)

end Plain

section StoresTo

variable {s : State} {ea : Word} {pa pb : Addr} (hm : s.pend.mac = false) (h : s.StoresTo ea pa)

include hm h

theorem writeHalf_plain (v : Half) : writeHalf ea v s = .ok () (s.setMem (s.mem.setHalf pa v)) :=
  writeHalfAt_plain hm h.1 h.2 v

theorem readHalf_plain : readHalf ea s = .ok (s.mem.half pa) s := readHalfAt_plain hm h.1 h.2

theorem testAndSetAt_plain :
    testAndSetAt (evenAddr (programAddr ea)) s =
      .ok (s.mem.half pa) (s.setMem (s.mem.setHalf pa 0xFFFF#16)) := by
  rw [testAndSetAt, h.1]
  dsimp only
  rw [absReadHalf_of_absHalf (absHalf_plain h.2), Res.bind_ok, absWriteHalf_iff.2 (storedAbs_plain h.2 _),
    Res.bind_ok, deliver_untainted (by exact hm)]

variable (ht : translate .write (evenAddr (programAddr ea) + 2#20) s = .ok pb)
  (hp : isPlain s.params pb = true)

include ht hp

theorem writeFull_plain (v : Word) :
    writeFull ea v s =
      .ok () (s.setMem ((s.mem.setHalf pa (halfOf false v)).setHalf pb (halfOf true v))) := by
  rw [writeFull, writeHalfAt_plain hm h.1 h.2, Res.bind_ok,
    writeHalfAt_plain (by exact hm) (by exact ht) (by exact hp)]
  rfl

theorem readFull_plain : readFull ea s = .ok (s.mem.half pa ++ s.mem.half pb) s := by
  rw [readFull, readHalfAt_plain hm h.1 h.2, Res.bind_ok, readHalfAt_plain hm ht hp, Res.bind_ok]

end StoresTo

/-! ## What a store leaves alone -/

/-- Is the byte at `x` outside the halfword at an address? -/
def Outside (x : Nat) (a : Addr) : Prop := x ≠ evenBase a ∧ x ≠ evenBase a + 1

theorem Memory.read_setHalf_outside {m : Memory} {a : Addr} {x : Nat} (h : Outside x a) (v : Half) :
    (m.setHalf a v).read x = m.read x :=
  Memory.read_setHalf_other h.1 h.2

theorem State.Wrote.setMem {ds : List Reg} {s t : State} (h : s.Wrote ds t) (m : Memory) :
    (s.setMem m).Wrote ds (t.setMem m) := by
  refine ⟨?_, h.2⟩
  rw [h.1]
  rfl

/-- Nothing has changed but memory, and the program counter has gone on. -/
def State.Stored (s t : State) (len : Nat) : Prop := t = { s.begin with mem := t.mem, pc := nextAddr s.pc len }

/-- Memory apart, nothing has changed but the condition code and the program counter. -/
def State.Flagged (s t : State) : Prop := s.OnlyRegs { t with mem := s.mem } []

section Sequential

variable {s t u : State} {m : Memory} {len : Nat} {body : State → Res Unit}

/-- An instruction whose body changes memory alone. -/
theorem sequential_stored (hb : body s.begin = .ok () (s.begin.setMem m)) (e : sequential len body s = .next t) :
    s.Stored t len ∧ t.mem = m := by
  rw [sequential_ok hb rfl] at e
  cases e
  exact ⟨rfl, rfl⟩

/-- An instruction whose body changes memory and the condition code alone. -/
theorem sequential_flagged (hb : body s.begin = .ok () u) (hw : (s.begin.setMem m).Wrote [] u)
    (e : sequential len body s = .next t) : s.Flagged t ∧ t.mem = m := by
  rw [sequential_ok hb (by rw [hw.pend]; rfl)] at e
  cases e
  refine ⟨⟨?_, hw.2⟩, ?_⟩
  · rw [hw.1]
    rfl
  · rw [State.setPc_mem, hw.1]
    rfl

/-- Such an instruction that stores one halfword. -/
theorem sequential_flaggedHalf {pa : Addr} {v : Half} (hb : body s.begin = .ok () u)
    (hw : (s.begin.setMem (s.mem.setHalf pa v)).Wrote [] u) (e : sequential len body s = .next t) :
    s.Flagged t ∧ ∀ x, Outside x pa → t.mem.read x = s.mem.read x := by
  obtain ⟨flagged, mem⟩ := sequential_flagged hb hw e
  exact ⟨flagged, fun x out => by rw [mem, Memory.read_setHalf_outside out]⟩

end Sequential

/-! ## The instructions -/

/-- The halfword that holds a bit, `n` bits on from an address (R245, D40). -/
theorem bitAddr_eq (ea d : Word) : bitAddr ea d = ea + BitVec.ofNat 32 (2 * (d.toNat / 16)) := by
  apply BitVec.eq_of_toNat_eq
  rw [bitAddr, BitVec.toNat_add, BitVec.toNat_add, BitVec.toNat_mul, BitVec.toNat_ushiftRight,
    Nat.shiftRight_eq_div_pow, BitVec.toNat_ofNat, BitVec.toNat_ofNat]

section Half

variable {s t : State} {r1 : Reg} {rx : RxAddr} {pa : Addr}

theorem execSth_plain (h : s.StoresTo (s.effAddr rx) pa) (e : exec (.sth r1 rx) s = .next t) :
    s.Stored t rx.length ∧ t.mem = s.mem.setHalf pa (s.regHalf r1) :=
  sequential_stored (body := fun t => writeHalf (t.effAddr rx) (t.regHalf r1) t)
    (writeHalf_plain (s := s.begin) rfl h _) e

theorem execStb_plain (h : s.StoresTo (s.effAddr rx) pa) (e : exec (.stb r1 rx) s = .next t) :
    s.Stored t rx.length ∧ t.mem = s.mem.setHalf pa
      (withByteAt (programAddr (s.effAddr rx)) (s.mem.half pa) ((s.reg r1).setWidth 8)) :=
  sequential_stored (body := fun t => writeByte (t.effAddr rx) ((t.reg r1).setWidth 8) t)
    (writeByte_plain (s := s.begin) rfl h) e

theorem execAhm_plain (h : s.StoresTo (s.effAddr rx) pa) (e : exec (.ahm r1 rx) s = .next t) :
    s.Flagged t ∧ ∀ x, Outside x pa → t.mem.read x = s.mem.read x := by
  rw [exec_ahm, execAhm] at e
  let v : Word := (s.mem.half pa).signExtend 32
  let f := addFlags (s.reg r1) v
  refine sequential_flaggedHalf (u := (s.begin.setFlags f).setMem _) ?_
    (((State.Wrote.refl [] s.begin).setFlags f).setMem (s.mem.setHalf pa ((s.reg r1 + v).setWidth 16))) e
  have read : operandHalf rx s.begin = .ok v s.begin :=
    Res.bind_eq_ok.2 ⟨_, _, readHalf_plain (s := s.begin) rfl h, rfl⟩
  rw [read, Res.bind_ok, State.writeFlags_untainted _ _ (by rfl)]
  exact writeHalf_plain (s := s.begin.setFlags f) rfl h _

theorem execTs_plain (h : s.StoresTo (s.effAddr rx) pa) (e : exec (.ts r1 rx) s = .next t) :
    s.Flagged t ∧ ∀ x, Outside x pa → t.mem.read x = s.mem.read x := by
  rw [exec_ts, execTs] at e
  refine sequential_flaggedHalf (v := 0xFFFF#16) ?_ ((State.Wrote.refl _ _).loadFlags ((s.mem.half pa).signExtend 32)) e
  exact Res.bind_eq_ok.2 ⟨_, _, testAndSetAt_plain (s := s.begin) rfl h, rfl⟩

theorem changeBit_plain {f : Half → Half → Half}
    (h : s.StoresTo (s.effAddr rx + BitVec.ofNat 32 (2 * ((s.reg r1).toNat / 16))) pa)
    (e : changeBit f r1 rx s = .next t) :
    s.Flagged t ∧ ∀ x, Outside x pa → t.mem.read x = s.mem.read x := by
  rw [← bitAddr_eq] at h
  rw [changeBit] at e
  let v := f (s.mem.half pa) (bitMask (s.reg r1))
  refine sequential_flaggedHalf (u := (s.begin.setMem (s.mem.setHalf pa v)).bitResult (s.mem.half pa) (s.reg r1))
    ?_ ((State.Wrote.refl _ _).tick.writeFlags _) e
  refine Res.bind_eq_ok.2 ⟨_, _, readHalf_plain (s := s.begin) rfl h, ?_⟩
  exact Res.bind_eq_ok.2 ⟨_, _, writeHalf_plain (s := s.begin) rfl h _, rfl⟩

end Half

section Full

variable {s t : State} {r1 : Reg} {rx : RxAddr} {pa pb : Addr} (h : s.StoresTo (s.effAddr rx) pa)
  (ht : translate .write (evenAddr (programAddr (s.effAddr rx)) + 2#20) s = .ok pb)
  (hp : isPlain s.params pb = true)

include h ht hp

theorem execSt_plain (e : exec (.st r1 rx) s = .next t) :
    s.Stored t rx.length ∧
      t.mem = (s.mem.setHalf pa (halfOf false (s.reg r1))).setHalf pb (halfOf true (s.reg r1)) :=
  sequential_stored (body := fun t => writeFull (t.effAddr rx) (t.reg r1) t)
    (writeFull_plain (s := s.begin) rfl h ht hp _) e

theorem execAm_plain (e : exec (.am r1 rx) s = .next t) :
    s.Flagged t ∧ ∃ v w, t.mem = (s.mem.setHalf pa v).setHalf pb w := by
  rw [exec_am, execAm] at e
  let v : Word := s.mem.half pa ++ s.mem.half pb
  let m := (s.mem.setHalf pa (halfOf false (s.reg r1 + v))).setHalf pb (halfOf true (s.reg r1 + v))
  have written : writeFull (s.effAddr rx) (s.reg r1 + v) s.begin = .ok () (s.begin.setMem m) :=
    writeFull_plain (s := s.begin) rfl h ht hp _
  obtain ⟨flagged, mem⟩ := sequential_flagged (m := m)
    (Res.bind_eq_ok.2 ⟨v, _, readFull_plain (s := s.begin) rfl h ht hp,
      Res.bind_eq_ok.2 ⟨(), _, written, if_neg (by simp)⟩⟩)
    ((State.Wrote.refl _ _).writeFlags (addFlags (s.reg r1) v)) e
  exact ⟨flagged, _, _, mem⟩

end Full

/-! ## STM -/

/-- Where halfword `k` of the fullwords from an address on is. -/
def halfPlace (ea : Word) (k : Nat) : Addr :=
  evenAddr (programAddr (ea + BitVec.ofNat 32 (4 * (k / 2)))) + BitVec.ofNat 20 (2 * (k % 2))

theorem halfPlace_add (ea : Word) (k i : Nat) :
    halfPlace (ea + BitVec.ofNat 32 (4 * k)) i = halfPlace ea (2 * k + i) := by
  rw [halfPlace, halfPlace, BitVec.add_assoc, ← BitVec.ofNat_add, ← Nat.mul_add, Nat.mul_add_div (by decide),
    Nat.mul_add_mod]

theorem halfPlace_next (ea : Word) (k : Nat) : halfPlace (ea + 4#32) k = halfPlace ea (k + 2) := by
  rw [Nat.add_comm]
  exact halfPlace_add ea 1 k

theorem halfPlace_left (ea : Word) : halfPlace ea 0 = evenAddr (programAddr ea) := by
  simp [halfPlace]

theorem halfPlace_right (ea : Word) : halfPlace ea 1 = evenAddr (programAddr ea) + 2#20 := by
  simp [halfPlace]

/-- The stores of STM where they all reach main memory: it changes at their places alone (R168). -/
theorem storeMultiple_plain {n : Nat} {ea : Word} {r : Reg} {p : Nat → Addr} {s : State}
    (hm : s.pend.mac = false)
    (h : ∀ k, k < 2 * n → translate .write (halfPlace ea k) s = .ok (p k) ∧ isPlain s.params (p k) = true) :
    ∃ m, storeMultiple n ea r s = .ok () (s.setMem m) ∧
      ∀ x, (∀ k, k < 2 * n → Outside x (p k)) → m.read x = s.mem.read x := by
  induction n generalizing ea r p s with
  | zero => exact ⟨s.mem, rfl, fun _ _ => rfl⟩
  | succ n ih =>
    obtain ⟨ht0, hp0⟩ := h 0 (by omega)
    obtain ⟨ht1, hp1⟩ := h 1 (by omega)
    have head : s.StoresTo ea (p 0) := ⟨halfPlace_left ea ▸ ht0, hp0⟩
    have written := writeFull_plain hm head (halfPlace_right ea ▸ ht1) hp1 (s.reg r)
    generalize hs : (s.mem.setHalf (p 0) _).setHalf (p 1) _ = first at written
    have later (k : Nat) (hk : k < 2 * n) : translate .write (halfPlace (ea + 4#32) k) (s.setMem first) =
        .ok (p (k + 2)) ∧ isPlain s.params (p (k + 2)) = true := by
      rw [halfPlace_next]
      exact h (k + 2) (by omega)
    obtain ⟨m, hm', hx⟩ := ih (r := nextReg r) (s := s.setMem first) hm later
    refine ⟨m, ?_, fun x out => ?_⟩
    · rw [storeMultiple, written, Res.bind_ok, hm']
      rfl
    · rw [hx x fun k hk => out (k + 2) (by omega), State.setMem_mem, ← hs,
        Memory.read_setHalf_outside (out 1 (by omega)), Memory.read_setHalf_outside (out 0 (by omega))]

/-- LM and STM, where no parity error abandons them, are their transfers. -/
theorem multiple_sequential {len n : Nat} {transfers : Nat → State → Res Unit} {s : State}
    (h : ¬∃ b, s.parityBreak = some b ∧ s.psw.m = true ∧ b.transfers < n) :
    multiple len n transfers s = sequential len (transfers n) s := by
  rw [multiple, transfer, sequential]
  dsimp only
  split
  · rename_i b hb
    rw [if_neg fun ⟨hm, hn⟩ => h ⟨b, hb, hm, hn⟩]
  · rfl

/-- STM to main memory, whole or abandoned (R168). -/
theorem execStm_plain {s t : State} {r1 : Reg} {rx : RxAddr} {p : Nat → Addr}
    (h : ∀ k, k < 2 * (16 - r1.toNat) →
      translate .write (halfPlace (s.effAddr rx) k) s = .ok (p k) ∧ isPlain s.params (p k) = true)
    (e : exec (.stm r1 rx) s = .next t) :
    s.Flagged t ∧ t.psw = s.psw ∧
      ∀ x, (∀ k, k < 2 * (16 - r1.toNat) → Outside x (p k)) → t.mem.read x = s.mem.read x := by
  rw [exec_stm, execStm] at e
  have transfers {n : Nat} (hn : n ≤ 16 - r1.toNat) :
      ∃ m, storeMultiple n (s.effAddr rx) r1 s.begin = .ok () (s.begin.setMem m) ∧
        ∀ x, (∀ k, k < 2 * (16 - r1.toNat) → Outside x (p k)) → m.read x = s.mem.read x := by
    obtain ⟨m, done, frame⟩ := storeMultiple_plain (n := n) (r := r1) (s := s.begin) rfl fun k hk => h k (by omega)
    exact ⟨m, done, fun x out => frame x fun k hk => out k (by omega)⟩
  by_cases hab : ∃ b, s.parityBreak = some b ∧ s.psw.m = true ∧ b.transfers < 16 - r1.toNat
  · obtain ⟨b, hb, hm, hn⟩ := hab
    obtain ⟨m, done, frame⟩ := transfers hn.le
    rw [multiple_abandoned hb hm hn done rfl] at e
    cases e
    exact ⟨⟨rfl, fun _ _ _ => rfl⟩, rfl, frame⟩
  · obtain ⟨m, done, frame⟩ := transfers le_rfl
    rw [multiple_sequential hab] at e
    rw [sequential_ok done rfl] at e
    cases e
    exact ⟨⟨rfl, fun _ _ _ => rfl⟩, rfl, frame⟩

/-- The byte of a halfword that STB does not address stays (R71, R169). -/
theorem other_byte_of_withByteAt {m : Memory} (hw : m.wf = true) (ea : Word) (pa : Addr) (b : Byte) :
    (m.setHalf pa (withByteAt (programAddr ea) (m.half pa) b)).read
        (if ea.getLsbD 0 then evenBase pa else evenBase pa + 1) =
      m.read (if ea.getLsbD 0 then evenBase pa else evenBase pa + 1) := by
  rw [withByteAt, programAddr_bit]
  split
  · rw [Memory.read_setHalf_left hw, BitVec.extractLsb'_append_eq_left]
    exact BitVec.extractLsb'_append_eq_left
  · rw [Memory.read_setHalf_right hw, BitVec.setWidth_append_eq_right]
    exact BitVec.setWidth_append_eq_right

/-- Settles O26: each instruction by what it stores in main memory. -/
theorem storeFrame : Obligations.StoreFrame := by
  intro s t r1 rx pa pb p ea place outside stored flagged
  refine ⟨fun h e => ?half, fun h hw e => ?otherByte, fun h e => e.elim (execAhm_plain h) (execTs_plain h),
    fun h e => ?bit, fun h ht hp => ⟨fun e => ?st, fun e => (execAm_plain h ht hp e).1, fun e x ha hb => ?full⟩,
    execStm_plain⟩
  case half =>
    rcases e with e | e
    · obtain ⟨only, mem⟩ := execSth_plain h e
      exact ⟨only, fun x out => by rw [mem, Memory.read_setHalf_outside out]⟩
    · obtain ⟨only, mem⟩ := execStb_plain h e
      exact ⟨only, fun x out => by rw [mem, Memory.read_setHalf_outside out]⟩
  case otherByte =>
    rw [(execStb_plain h e).2]
    exact other_byte_of_withByteAt hw _ _ _
  case bit =>
    rw [exec_sbt, exec_rbt, exec_cbt] at e
    rcases e with e | e | e <;> exact changeBit_plain h e
  case st => exact (execSt_plain h ht hp e).1
  case full =>
    have mem : ∃ v w, t.mem = (s.mem.setHalf pa v).setHalf pb w :=
      e.elim (fun e => ⟨_, _, (execSt_plain h ht hp e).2⟩) fun e => (execAm_plain h ht hp e).2
    obtain ⟨v, w, mem⟩ := mem
    rw [mem, Memory.read_setHalf_outside hb, Memory.read_setHalf_outside ha]

end Sys2Proof.Machine

/-! # An operand that does not translate

A MAC fault inside an instruction records its cause at once; what is read after it is open, what is written is
open or lost, and the instruction ends in the MAC interrupt, taken or waiting (R458, R465, D14). -/

namespace Sys2Proof.Machine

/-! ## How the instruction ends -/

/-- A machine malfunction is due by its three conditions (R458). -/
theorem malfunctionDue_iff (s : State) :
    s.malfunctionDue = true ↔ s.psw.m = true ∧ (s.pend.parityError = true ∨ s.pend.powerRestored = true ∨
      ∃ b, s.parityBreak = some b ∧ b.latched = true) := by
  rw [State.malfunctionDue, Bool.and_eq_true, Bool.or_eq_true, Bool.or_eq_true, Option.any_eq_true, or_assoc]

/-- An instruction of `len` bytes at `s` has ended in the MAC interrupt, its effects before the fault having led
to `u`: taken, or, with a machine malfunction due, waiting. -/
def EndsInMac (s u : State) (cause : MacCause) (len : Nat) (newPsw newPc : Word) (o : Out) : Prop :=
  (s.malfunctionDue = false → u.NewContext 0x90#20 0x94#20 newPsw newPc →
    o = .next (u.macTaken cause newPsw newPc (macSavedPc s.params s.pc (nextAddr s.pc len)))) ∧
  (s.malfunctionDue = true → o = .next (u.macHeld cause (nextAddr s.pc len)))

/-- A PSW swap replaces the program counter. -/
theorem swapped_setPc (s : State) (a : Addr) (newPsw newPc : Word) (saved : Addr) :
    (s.setPc a).swapped newPsw newPc saved = s.swapped newPsw newPc saved := rfl

/-- An instruction whose body has recorded a MAC fault (R459, R465). -/
theorem sequential_fault {len : Nat} {body : State → Res Unit} {s u : State} {cause : MacCause}
    (newPsw newPc : Word) (hb : body s.begin = .ok () (u.begin.raiseMac cause)) (hp : u.params = s.params)
    (hd : u.malfunctionDue = s.malfunctionDue) :
    EndsInMac s u cause len newPsw newPc (sequential len body s) := by
  have fault := raiseMac_first (s := u.begin) rfl cause
  have ends : sequential len body s =
      endWithMac (macSavedPc s.params s.pc (nextAddr s.pc len)) (nextAddr s.pc len)
        ((u.begin.raiseMac cause).setPc (nextAddr s.pc len)) := by
    rw [sequential, hb, Res.bind_ok, finish, State.setPc_pend, State.raiseMac_pending, if_pos rfl,
      State.setPc_params, raiseMac_params, State.begin_params, hp, State.setPc_pc]
  have due : ((u.begin.raiseMac cause).setPc (nextAddr s.pc len)).malfunctionDue = s.malfunctionDue := by
    rw [← hd, fault]
    rfl
  rw [ends, endWithMac, due]
  refine ⟨fun hn hc => ?taken, fun hn => ?held⟩
  case held =>
    rw [if_pos hn]
    rfl
  case taken =>
    have ctx : ((((u.begin.raiseMac cause).setPc (nextAddr s.pc len)).setMacPending false).setMacWaiting
        false).NewContext 0x90#20 0x94#20 newPsw newPc := macContext_congr (by simp) (by simp) hc
    rw [hn, if_neg (by decide), takeMac, swapToRegisters_value ctx, Res.out, State.macTaken,
      ← swapped_setPc _ (nextAddr s.pc len)]
    rfl

/-- The same, its effects before the fault having been accesses. -/
theorem sequential_faultAfter {len : Nat} {body : State → Res Unit} {s u : State} {cause : MacCause}
    (newPsw newPc : Word) (hb : body s.begin = .ok () (u.raiseMac cause)) (hu : s.begin.AfterAccess u)
    (hm : u.pend.mac = false) : EndsInMac s u cause len newPsw newPc (sequential len body s) := by
  have untainted : u.begin = u := by
    rw [State.begin, State.setMacPending, ← hm]
  refine sequential_fault newPsw newPc (by rw [untainted, hb]) ?_ ?_ <;> rw [hu.1] <;> rfl

/-! ## Stores -/

section Store

variable {s : State} {va : Addr} {cause : MacCause}

theorem writeHalfAt_fault (hm : s.pend.mac = false) (h : translate .write va s = .error cause) (v : Half) :
    writeHalfAt va v s = .ok () (s.raiseMac cause) := by
  rw [writeHalfAt, hm, h]
  rfl

/-- After a fault a store that fails too changes nothing (D14). -/
theorem writeHalfAt_lost (hm : s.pend.mac = true) (h : ∃ c, translate .write va s = .error c) (v : Half) :
    writeHalfAt va v s = .ok () s := by
  obtain ⟨c, h⟩ := h
  rw [writeHalfAt, hm, writeTainted, h]
  rfl

theorem writeByte_fault {ea : Word} {b : Byte} (hm : s.pend.mac = false)
    (h : translate .write (evenAddr (programAddr ea)) s = .error cause) :
    writeByte ea b s = .ok () (s.raiseMac cause) := by
  rw [writeByte, hm, h]
  rfl

/-- A MAC fault changes no translation. -/
theorem translate_raiseMac (kind : Access) (va : Addr) (s : State) (cause : MacCause) :
    translate kind va (s.raiseMac cause) = translate kind va s := by
  unfold State.raiseMac
  split <;> rfl

/-- A fullword whose left half faults, and whose right half cannot be stored either. -/
theorem writeFull_fault {ea v : Word} (hm : s.pend.mac = false)
    (h : translate .write (evenAddr (programAddr ea)) s = .error cause)
    (h2 : ∃ c, translate .write (evenAddr (programAddr ea) + 2#20) s = .error c) :
    writeFull ea v s = .ok () (s.raiseMac cause) := by
  rw [writeFull, writeHalfAt_fault hm h, Res.bind_ok,
    writeHalfAt_lost (s.raiseMac_pending cause) (by rwa [translate_raiseMac])]

theorem storedAt_even (s : State) (va : Addr) (v : Half) : s.storedAt (evenAddr va) v = s.storedAt va v := by
  rw [State.storedAt, State.storedAt, evenAddr_evenAddr]

/-- A fullword whose right half faults: the left one is stored. -/
theorem writeFull_faultRight {ea v : Word} {u : State} (hm : s.pend.mac = false)
    (h : s.storedAt (programAddr ea) (halfOf false v) = some u)
    (h2 : translate .write (evenAddr (programAddr ea) + 2#20) u = .error cause) :
    writeFull ea v s = .ok () (u.raiseMac cause) := by
  rw [writeFull, writeHalfAt_value hm h, Res.bind_ok,
    writeHalfAt_fault (by rw [State.storedAt_pend h, hm]) h2]

end Store

/-! ## STM -/

theorem wordAfter_succ (ea : Word) (k : Nat) :
    ea + 4#32 + BitVec.ofNat 32 (4 * k) = ea + BitVec.ofNat 32 (4 * (k + 1)) := by
  rw [BitVec.add_assoc, Nat.mul_succ, Nat.add_comm, BitVec.ofNat_add]

/-- The stores of STM, at what they may change. -/
theorem storeMultiple_after {n : Nat} {ea : Word} {r : Reg} {s t : State} (e : storeMultiple n ea r s = .ok () t) :
    s.AfterAccess t := by
  induction n generalizing ea r s with
  | zero =>
    cases e
    exact State.AfterAccess.refl _
  | succ n ih =>
    obtain ⟨_, u, h1, h2⟩ := Res.bind_eq_ok.1 e
    exact (writeFull_after h1).trans (ih h2)

/-- The stores of STM in two parts. -/
theorem storeMultiple_add (k n : Nat) (ea : Word) (r : Reg) (s : State) :
    storeMultiple (k + n) ea r s =
      (storeMultiple k ea r s).bind fun _ t => storeMultiple n (ea + BitVec.ofNat 32 (4 * k)) (regAfter r k) t := by
  induction k generalizing ea r s with
  | zero => simp [storeMultiple, regAfter_zero]
  | succ k ih =>
    rw [Nat.succ_add, storeMultiple, storeMultiple]
    cases writeFull ea (s.reg r) s with
    | ok _ t => rw [Res.bind_ok, Res.bind_ok, ih, wordAfter_succ, regAfter_succ]
    | fault f => rfl
    | refused f => rfl

/-- After a fault the stores of STM change nothing where each of them fails too. -/
theorem storeMultiple_lost {n : Nat} {ea : Word} {r : Reg} {s : State} (hm : s.pend.mac = true)
    (h : ∀ k, k < 2 * n → ∃ c, translate .write (halfPlace ea k) s = .error c) :
    storeMultiple n ea r s = .ok () s := by
  induction n generalizing ea r with
  | zero => rfl
  | succ n ih =>
    have left := halfPlace_left ea ▸ h 0 (by omega)
    have right := halfPlace_right ea ▸ h 1 (by omega)
    rw [storeMultiple, writeFull, writeHalfAt_lost hm left, Res.bind_ok, writeHalfAt_lost hm right, Res.bind_ok]
    exact ih fun k hk => by
      rw [halfPlace_next]
      exact h (k + 2) (by omega)

/-- STM of which store `k` faults, and every later half with it: the stores before stay (R168, D29). -/
theorem storeMultiple_fault {k n : Nat} {ea : Word} {r : Reg} {s u : State} {cause : MacCause}
    (hm : s.pend.mac = false) (hk : k < n) (hs : State.storedFulls (s.regsFrom r k) ea s = some u)
    (hf : translate .write (evenAddr (programAddr (ea + BitVec.ofNat 32 (4 * k)))) u = .error cause)
    (hl : ∀ j, 2 * k ≤ j → j < 2 * n → ∃ c, translate .write (halfPlace ea j) u = .error c) :
    storeMultiple n ea r s = .ok () (u.raiseMac cause) := by
  obtain ⟨m, rfl⟩ : ∃ m, n = k + (m + 1) := ⟨n - k - 1, by omega⟩
  obtain ⟨before, pend⟩ := storeMultiple_value hm hs
  have right := halfPlace_right _ ▸ (halfPlace_add ea k 1).symm ▸ hl (2 * k + 1) (by omega) (by omega)
  have untainted : u.pend.mac = false := by rw [pend, hm]
  rw [storeMultiple_add, before, Res.bind_ok, storeMultiple, writeFull_fault untainted hf right, Res.bind_ok]
  refine storeMultiple_lost (u.raiseMac_pending cause) fun i hi => ?_
  rw [translate_raiseMac, halfPlace_next, halfPlace_add]
  exact hl _ (by omega) (by omega)

/-! ## Loads -/

/-- The count of free values replaced. -/
def State.setFreeIx (s : State) (k : Nat) : State := { s with freeIx := k }

@[simp] theorem State.setFreeIx_pend (s : State) (k : Nat) : (s.setFreeIx k).pend = s.pend := rfl

/-- An operation faults: the cause is recorded, free values are drawn, and what it delivers is open. -/
def Res.Faults {α : Type} (r : Res α) (s : State) (cause : MacCause) : Prop :=
  ∃ v k, r = .ok v ((s.raiseMac cause).setFreeIx k)

section Load

variable {s : State} {cause : MacCause} {ea : Word}

/-- What is computed from the value delivered. -/
theorem Res.Faults.map {α β : Type} {r : Res α} (h : r.Faults s cause) (f : α → β) :
    (r.bind fun a t => .ok (f a) t).Faults s cause := by
  obtain ⟨v, k, rfl⟩ := h
  exact ⟨f v, k, rfl⟩

theorem readHalfAt_fault {va : Addr} (hm : s.pend.mac = false) (h : translate .read va s = .error cause) :
    (readHalfAt .read va s).Faults s cause := by
  rw [readHalfAt, hm, h]
  exact ⟨_, _, if_pos (s.raiseMac_pending cause)⟩

/-- After a fault a read delivers an unspecified value (R95). -/
theorem readHalfAt_lost (hm : s.pend.mac = true) (kind : Access) (va : Addr) :
    readHalfAt kind va s = .ok (s.free.setWidth 16) s.tick := by
  rw [readHalfAt, deliver, hm]
  rfl

theorem readFull_lost (hm : s.pend.mac = true) (ea : Word) : ∃ v, readFull ea s = .ok v s.tick.tick := by
  rw [readFull, readHalfAt_lost hm, Res.bind_ok, readHalfAt_lost (by exact hm)]
  exact ⟨_, rfl⟩

variable (hm : s.pend.mac = false)

include hm

theorem readHalf_fault (h : translate .read (evenAddr (programAddr ea)) s = .error cause) :
    (readHalf ea s).Faults s cause := readHalfAt_fault hm h

theorem readByte_fault (h : translate .read (evenAddr (programAddr ea)) s = .error cause) :
    (readByte ea s).Faults s cause := (readHalfAt_fault hm h).map _

/-- A fullword whose left half faults. -/
theorem readFull_fault (h : translate .read (evenAddr (programAddr ea)) s = .error cause) :
    (readFull ea s).Faults s cause := by
  obtain ⟨v, k, read⟩ := readHalfAt_fault hm h
  rw [readFull, read, Res.bind_ok, readHalfAt_lost (by simp [State.raiseMac_pending])]
  exact ⟨_, _, rfl⟩

omit hm in
theorem halfAt_even (kind : Access) (va : Addr) : s.halfAt kind (evenAddr va) = s.halfAt kind va := by
  rw [State.halfAt, State.halfAt, evenAddr_evenAddr]

/-- A fullword whose right half faults. -/
theorem readFull_faultRight {hi : Half} (h : s.halfAt .read (programAddr ea) = some hi)
    (h2 : translate .read (evenAddr (programAddr ea) + 2#20) s = .error cause) :
    (readFull ea s).Faults s cause := by
  rw [readFull, readHalfAt_value hm h, Res.bind_ok]
  exact (readHalfAt_fault hm h2).map _

end Load

/-- After a fault a register takes an unspecified value (R465). -/
theorem State.writeReg_tainted {s : State} (h : s.pend.mac = true) (r : Reg) (v : Word) :
    s.writeReg r v = s.tick.setReg r s.free := by
  rw [State.writeReg, h, if_pos rfl]

theorem State.loadFlags_tainted {s : State} (h : s.pend.mac = true) (v : Word) :
    s.loadFlags v = s.tick.tick.setFlags s.tick.freeFlags := by
  rw [State.loadFlags, State.writeFlags, State.tick_pend, h, if_pos rfl]

/-- After a fault a load leaves x[R1] and the condition code open (R465). -/
theorem loadTo_lost {t : State} (ht : t.pend.mac = true) (r1 : Reg) (v : Word) :
    ∃ x f k, loadTo r1 v t = .ok () (((t.setReg r1 x).setFlags f).setFreeIx k) := by
  refine ⟨t.free, (t.tick.setReg r1 t.free).tick.freeFlags, t.freeIx + 3, ?_⟩
  rw [loadTo, State.writeReg_tainted ht, State.loadFlags_tainted (by exact ht)]
  rfl

/-- A load whose operand faults: x[R1] and the condition code are open (R465). -/
theorem load_fault {s : State} {cause : MacCause} {len : Nat} {operand : State → Res Word} (newPsw newPc : Word)
    (r1 : Reg) (h : (operand s.begin).Faults s.begin cause) :
    ∃ (x : Word) (f : Flags) (k : Nat),
      EndsInMac s (((s.setReg r1 x).setFlags f).setFreeIx k) cause len newPsw newPc (load len operand r1 s) := by
  obtain ⟨v, ix, read⟩ := h
  obtain ⟨x, f, k, written⟩ := loadTo_lost (t := (s.begin.raiseMac cause).setFreeIx ix)
    (s.begin.raiseMac_pending cause) r1 v
  refine ⟨x, f, k, sequential_fault newPsw newPc ?_ rfl rfl⟩
  rw [read, Res.bind_ok, written, raiseMac_first (by rfl), raiseMac_first (by rfl)]
  rfl

/-! ## LM -/

/-- Registers of the selected set from `r` on, `n` of them, and the count of free values are open. -/
def State.RegsOpen (s t : State) (r : Reg) (n : Nat) : Prop :=
  t = { s with regs := t.regs, freeIx := t.freeIx } ∧
  ∀ c x, ¬(c = s.psw.rs ∧ r.toNat ≤ x.toNat ∧ x.toNat < r.toNat + n) → t.regIn c x = s.regIn c x

theorem State.RegsOpen.step {s t : State} {r : Reg} {n : Nat} {v : Word} (hn : r.toNat + (n + 1) ≤ 16)
    (h : (s.setReg r v).RegsOpen t (nextReg r) n) : s.RegsOpen t r (n + 1) := by
  obtain ⟨fields, regs⟩ := h
  refine ⟨fields, fun c x hx => ?_⟩
  have next := nextReg_toNat r
  have written : (s.setReg r v).regIn c x = s.regIn c x :=
    State.regIn_setRegIn_other s _ _ _ _ _ fun ⟨hc, hr⟩ =>
      hx ⟨hc, hr ▸ le_rfl, by rw [hr]; omega⟩
  exact (regs c x fun ⟨hc, lo, hi⟩ => hx ⟨hc, by omega, by omega⟩).trans written

theorem State.RegsOpen.ofTick {s t : State} {r : Reg} {n : Nat} (h : s.tick.RegsOpen t r n) : s.RegsOpen t r n :=
  ⟨h.1, h.2⟩

theorem State.RegsOpen.ofSetFreeIx {s t : State} {k : Nat} {r : Reg} {n : Nat}
    (h : (s.setFreeIx k).RegsOpen t r n) : s.RegsOpen t r n :=
  ⟨h.1, h.2⟩

/-- After a fault LM leaves the registers still to be loaded open. -/
theorem loadMultiple_lost {n : Nat} {ea : Word} {r : Reg} {s : State} (hm : s.pend.mac = true)
    (hn : r.toNat + n ≤ 16) : ∃ t, loadMultiple n ea r s = .ok () t ∧ s.RegsOpen t r n := by
  induction n generalizing ea r s with
  | zero => exact ⟨s, rfl, rfl, fun _ _ _ => rfl⟩
  | succ n ih =>
    obtain ⟨v, read⟩ := readFull_lost hm ea
    have next := nextReg_toNat r
    let u := s.tick.tick.tick.setReg r s.tick.tick.free
    obtain ⟨t, rest, opened⟩ := ih (ea := ea + 4#32) (r := nextReg r) (s := u) hm (by omega)
    refine ⟨t, ?_, (State.RegsOpen.step hn opened).ofTick.ofTick.ofTick⟩
    rw [loadMultiple, read, Res.bind_ok, State.writeReg_tainted (by exact hm)]
    exact rest

/-- The transfers of LM in two parts. -/
theorem loadMultiple_add (k n : Nat) (ea : Word) (r : Reg) (s : State) :
    loadMultiple (k + n) ea r s =
      (loadMultiple k ea r s).bind fun _ t => loadMultiple n (ea + BitVec.ofNat 32 (4 * k)) (regAfter r k) t := by
  induction k generalizing ea r s with
  | zero => simp [loadMultiple, regAfter_zero]
  | succ k ih =>
    rw [Nat.succ_add, loadMultiple, loadMultiple]
    cases readFull ea s with
    | ok v t => rw [Res.bind_ok, Res.bind_ok, ih, wordAfter_succ, regAfter_succ]
    | fault f => rfl
    | refused f => rfl

/-- What is left open after a fault may as well have been left open before it. -/
theorem State.RegsOpen.beforeFault {s t : State} {cause : MacCause} {r : Reg} {n : Nat} (hm : s.pend.mac = false)
    (h : (s.raiseMac cause).RegsOpen t r n) : ∃ u, t = u.raiseMac cause ∧ s.RegsOpen u r n := by
  rw [raiseMac_first hm] at h
  obtain ⟨fields, regs⟩ := h
  refine ⟨{ s with regs := t.regs, freeIx := t.freeIx }, ?_, rfl, regs⟩
  rw [raiseMac_first (by exact hm), fields]

/-- LM of which the first transfer faults. -/
theorem loadMultiple_faultFirst {n : Nat} {ea : Word} {r : Reg} {s : State} {cause : MacCause}
    (hm : s.pend.mac = false) (hn : r.toNat + (n + 1) ≤ 16)
    (hf : translate .read (evenAddr (programAddr ea)) s = .error cause) :
    ∃ u, loadMultiple (n + 1) ea r s = .ok () (u.raiseMac cause) ∧ s.RegsOpen u r (n + 1) := by
  have tainted := s.raiseMac_pending cause
  have next := nextReg_toNat r
  obtain ⟨v, k, read⟩ := readFull_fault hm hf
  obtain ⟨t, rest, opened⟩ := loadMultiple_lost (n := n) (ea := ea + 4#32) (r := nextReg r)
    (s := ((s.raiseMac cause).setFreeIx k).tick.setReg r ((s.raiseMac cause).setFreeIx k).free) tainted (by omega)
  obtain ⟨u, rfl, before⟩ := (State.RegsOpen.step hn opened).ofTick.ofSetFreeIx.beforeFault hm
  refine ⟨u, ?_, before⟩
  rw [loadMultiple, read, Res.bind_ok, State.writeReg_tainted (by exact tainted), rest]

/-- LM of which transfer `k` faults: the registers loaded before stay, the later ones are open (R161, D29). -/
theorem loadMultiple_fault {k n : Nat} {ea : Word} {r : Reg} {w : Nat → Word} {s : State} {cause : MacCause}
    (hm : s.pend.mac = false) (hk : k < n) (hn : r.toNat + n ≤ 16)
    (h : ∀ j, j < k → s.dataFull (ea + BitVec.ofNat 32 (4 * j)) = some (w j))
    (hf : translate .read (evenAddr (programAddr (ea + BitVec.ofNat 32 (4 * k)))) s = .error cause) :
    ∃ u : State, loadMultiple n ea r s = .ok () (u.raiseMac cause) ∧
      u = { s with regs := u.regs, freeIx := u.freeIx } ∧
      ∀ c x, ¬(c = s.psw.rs ∧ r.toNat + k ≤ x.toNat) →
        u.regIn c x = if c = s.psw.rs ∧ r.toNat ≤ x.toNat then w (x.toNat - r.toNat) else s.regIn c x := by
  obtain ⟨m, rfl⟩ : ∃ m, n = k + (m + 1) := ⟨n - k - 1, by omega⟩
  obtain ⟨regs, before, loaded⟩ := loadMultiple_value (n := k) (r := r) hm (by omega) h
  have place : (regAfter r k).toNat = r.toNat + k := by
    rw [regAfter, BitVec.toNat_ofNat]
    omega
  obtain ⟨u, after, fields, opened⟩ := loadMultiple_faultFirst (n := m) (r := regAfter r k)
    (s := { s with regs := regs }) hm (by omega) hf
  refine ⟨u, ?_, fields, fun c x hx => ?_⟩
  · rw [loadMultiple_add, before, Res.bind_ok, after]
  · refine (opened c x fun ⟨hc, lo, _⟩ => hx ⟨hc, by omega⟩).trans ((loaded c x).trans ?_)
    by_cases hi : c = s.psw.rs ∧ r.toNat ≤ x.toNat
    · rw [if_pos hi, if_pos ⟨hi.1, hi.2, by_contra fun hlt => hx ⟨hi.1, by omega⟩⟩]
    · rw [if_neg hi, if_neg fun ⟨hc, lo, _⟩ => hi ⟨hc, lo⟩]

/-! ## The instructions -/

/-- Settles O20: each instruction by the state its body leaves, then `sequential_fault`. -/
theorem operandFaultTakesMac : Obligations.OperandFaultTakesMac := by
  intro s r1 rx cause newPsw newPc saved ea first place due left ends stored loaded
  have ended {u : State} {o : Out} (h : EndsInMac s u cause rx.length newPsw newPc o) : ends u o := by
    obtain ⟨taken, held⟩ := h
    refine ⟨fun hd hc => taken (Bool.eq_false_iff.2 fun hm => hd ((malfunctionDue_iff s).1 hm)) hc,
      fun hd => held ((malfunctionDue_iff s).2 hd)⟩
  have opened {i : Instr} {operand : State → Res Word} (hi : exec i s = load rx.length operand r1 s)
      (h : (operand s.begin).Faults s.begin cause) : loaded i := by
    obtain ⟨x, f, k, h⟩ := load_fault (len := rx.length) newPsw newPc r1 h
    exact ⟨x, f, k, hi ▸ ended h⟩
  refine ⟨fun h => ⟨ended ?sth, ended ?stb, fun h2 => ended ?st⟩, fun u hu h => ended ?stRight,
    fun h => ⟨opened rfl ?lh, opened rfl ?lhl, opened rfl ?lb, opened rfl ?l⟩, fun hi h1 h2 => opened rfl ?lRight,
    fun k w hb hk hw h => ?lm, fun k u hb hk hs h hl => ended ?stm⟩
  case sth =>
    exact sequential_fault (body := fun t => writeHalf (t.effAddr rx) (t.regHalf r1) t) _ _
      (writeHalfAt_fault (s := s.begin) rfl h _) rfl rfl
  case stb =>
    exact sequential_fault (body := fun t => writeByte (t.effAddr rx) ((t.reg r1).setWidth 8) t) _ _
      (writeByte_fault (s := s.begin) rfl h) rfl rfl
  case st =>
    exact sequential_fault (body := fun t => writeFull (t.effAddr rx) (t.reg r1) t) _ _
      (writeFull_fault (s := s.begin) rfl h h2) rfl rfl
  case stRight =>
    rw [storedAt_even] at hu
    exact sequential_faultAfter _ _ (writeFull_faultRight (s := s.begin) rfl hu h) (State.storedAt_after rfl hu)
      (congrArg Pending.mac (State.storedAt_pend hu))
  case lh => exact (readHalf_fault (s := s.begin) rfl h).map _
  case lhl => exact (readHalf_fault (s := s.begin) rfl h).map _
  case lb => exact (readByte_fault (s := s.begin) rfl h).map _
  case l => exact readFull_fault (s := s.begin) rfl h
  case lRight =>
    rw [halfAt_even] at h1
    exact readFull_faultRight (s := s.begin) rfl h1 h2
  case lm =>
    obtain ⟨u, run, fields, regs⟩ := loadMultiple_fault (s := s.begin) (r := r1) rfl hk (by omega) hw h
    refine ⟨{ s with regs := u.regs, freeIx := u.freeIx }, ended ?_, rfl, regs⟩
    rw [exec_lm, execLm, multiple_sequential (by simp [hb])]
    refine sequential_fault _ _ ?_ rfl rfl
    rw [run, fields]
    rfl
  case stm =>
    have stored := storeMultiple_value (s := s.begin) rfl hs
    have run := storeMultiple_fault (s := s.begin) (n := 16 - r1.toNat) rfl hk hs h fun j lo hi =>
      hl (j / 2) (j % 2) (by omega) (by omega) (by omega)
    rw [exec_stm, execStm, multiple_sequential (by simp [hb])]
    exact sequential_faultAfter _ _ run (storeMultiple_after stored.1) (congrArg Pending.mac stored.2)

end Sys2Proof.Machine

/-! # Decoder and encoder

The formats of R111, one after another: what the decoder reads from the words of each, and that what it answers
has those words. Both directions of the agreement are then a case split over the formats. -/

namespace Sys2Proof

/-! ## The second halfword of an RX instruction -/

/-- The halfword an RX1 instruction's address stands in begins with 00 (R117). -/
theorem rx1Word_form (a2 : BitVec 14) :
    BitVec.getMsbD (0#2 ++ a2 : Half) 0 = false ∧ BitVec.getMsbD (0#2 ++ a2 : Half) 1 = false :=
  ⟨BitVec.getMsbD_append, BitVec.getMsbD_append⟩

/-- The halfword an RX2 instruction's displacement stands in begins with 1 (R118). -/
theorem rx2Word_form (d2 : BitVec 15) : BitVec.getMsbD (1#1 ++ d2 : Half) 0 = true := BitVec.getMsbD_append

/-- The second halfword of an RX3 instruction begins with 01 (R119). -/
theorem rx3Word_form (x2p : Nib) (a : Byte) :
    BitVec.getMsbD (4#4 ++ x2p ++ a : Half) 0 = false ∧ BitVec.getMsbD (4#4 ++ x2p ++ a : Half) 1 = true :=
  ⟨BitVec.getMsbD_append.trans BitVec.getMsbD_append, BitVec.getMsbD_append.trans BitVec.getMsbD_append⟩

/-- Bits 18:19, X2' and A2's first eight bits of the second halfword of an RX3 instruction (R119). -/
theorem rx3Word_fields (x2p : Nib) (a : Byte) :
    BitVec.extractLsb' 12 2 (4#4 ++ x2p ++ a : Half) = 0#2 ∧
    BitVec.extractLsb' 8 4 (4#4 ++ x2p ++ a : Half) = x2p ∧
    BitVec.extractLsb' 0 8 (4#4 ++ x2p ++ a : Half) = a := by
  refine ⟨?_, ?_, BitVec.extractLsb'_append_eq_right⟩
  · exact (BitVec.extractLsb'_append_eq_of_le (by decide)).trans
      (BitVec.extractLsb'_append_eq_of_le (by decide))
  · exact (BitVec.extractLsb'_append_eq_of_le (by decide)).trans BitVec.extractLsb'_append_eq_right

section Words

variable {h : Half}

/-- Bits 16:17, by which the form is chosen (R120), as a field. -/
theorem formField_eq (h : Half) :
    h.extractLsb' 14 2 = BitVec.ofBool (h.getMsbD 0) ++ BitVec.ofBool (h.getMsbD 1) := by
  apply BitVec.eq_of_getLsbD_eq
  intro k hk
  rw [BitVec.getLsbD_append]
  interval_cases k <;> simp [BitVec.getMsbD_eq_getLsbD]

theorem rx1Word_of_form (h0 : h.getMsbD 0 = false) (h1 : h.getMsbD 1 = false) :
    h = 0#2 ++ h.extractLsb' 0 14 := by
  have form : h.extractLsb' 14 2 = 0#2 := by
    rw [formField_eq, h0, h1]
    rfl
  rw [← form]
  exact (BitVec.extractLsb'_append_extractLsb' (w := 2) (len := 14)).symm

theorem rx2Word_of_form (h0 : h.getMsbD 0 = true) : h = 1#1 ++ h.extractLsb' 0 15 := by
  have form : h.extractLsb' 15 1 = 1#1 := by
    apply BitVec.eq_of_getLsbD_eq
    intro k hk
    interval_cases k
    simpa [BitVec.getMsbD_eq_getLsbD] using h0
  rw [← form]
  exact (BitVec.extractLsb'_append_extractLsb' (w := 1) (len := 15)).symm

theorem rx3Word_of_form (h0 : h.getMsbD 0 = false) (h1 : h.getMsbD 1 = true)
    (hz : h.extractLsb' 12 2 = 0#2) : h = 4#4 ++ h.extractLsb' 8 4 ++ h.extractLsb' 0 8 := by
  have form : h.extractLsb' 12 4 = 4#4 := by
    have fields : h.extractLsb' 14 2 ++ h.extractLsb' 12 2 = h.extractLsb' 12 4 :=
      BitVec.extractLsb'_append_extractLsb'_eq_extractLsb' rfl
    rw [← fields, formField_eq, h0, h1, hz]
    rfl
  have left : h.extractLsb' 12 4 ++ h.extractLsb' 8 4 = h.extractLsb' 8 8 :=
    BitVec.extractLsb'_append_extractLsb'_eq_extractLsb' rfl
  rw [← form, left]
  exact (BitVec.extractLsb'_append_extractLsb' (w := 8) (len := 8)).symm

/-- A second halfword that begins with 01 is of the RX3 form. -/
theorem rx3Form_of_field (hf : h.extractLsb' 14 2 = 1#2) : h.getMsbD 0 = false ∧ h.getMsbD 1 = true := by
  rw [formField_eq] at hf
  revert hf
  cases h.getMsbD 0 <;> cases h.getMsbD 1 <;> decide

end Words

/-! ## What the decoder reads from the words of each format -/

section Formats

variable {op : Byte} (r1 r2 : Reg) (rest : List Half)

theorem decode_rr (h : opClass op = .rr) : decode (firstHalf op r1 r2 :: rest) = decodeRr op r1 r2 := by
  simp [decode, h]

theorem decode_sf (h : opClass op = .sf) : decode (firstHalf op r1 r2 :: rest) = decodeSf op r1 r2 := by
  simp [decode, h]

theorem decode_ri1 (h : opClass op = .ri1) (i2 : Half) :
    decode (firstHalf op r1 r2 :: i2 :: rest) = decodeRi1 op r1 r2 i2 := by
  simp [decode, h]

theorem decode_ri2 (h : opClass op = .ri2) (h1 h2 : Half) :
    decode (firstHalf op r1 r2 :: h1 :: h2 :: rest) = decodeRi2 op r1 r2 (h1 ++ h2) := by
  simp [decode, h]

/-- The form of an RX operand is read from its own words (R120). -/
theorem decode_rx (h : opClass op = .rx) (rx : RxAddr) :
    decode (encodeRx op r1 rx ++ rest) = decodeRx op r1 rx := by
  cases rx with
  | rx1 x2 a2 =>
    obtain ⟨h0, h1⟩ := rx1Word_form a2
    have field : BitVec.extractLsb' 0 14 (0#2 ++ a2 : Half) = a2 := BitVec.extractLsb'_append_eq_right
    simp [encodeRx, decode, h, decodeRxWords, h0, h1, field]
  | rx2 x2 d2 =>
    have field : BitVec.extractLsb' 0 15 (1#1 ++ d2 : Half) = d2 := BitVec.extractLsb'_append_eq_right
    simp [encodeRx, decode, h, decodeRxWords, rx2Word_form, field]
  | rx3 x2 x2p a2 =>
    obtain ⟨h0, h1⟩ := rx3Word_form x2p (a2.extractLsb' 16 8)
    obtain ⟨hz, hx, ha⟩ := rx3Word_fields x2p (a2.extractLsb' 16 8)
    have field : a2.extractLsb' 16 8 ++ a2.extractLsb' 0 16 = a2 :=
      BitVec.extractLsb'_append_extractLsb'
    simp [encodeRx, decode, h, decodeRxWords, h0, h1, hz, hx, ha, field]

/-- An RX3 encoding with bits 18:19 not 00 is refused (R120, D12). -/
theorem decode_rx3Reserved {h0 w : Half} (v : Half) (h : opClass (opField h0) = .rx)
    (f0 : w.getMsbD 0 = false) (f1 : w.getMsbD 1 = true) (hz : w.extractLsb' 12 2 ≠ 0#2) :
    decode (h0 :: w :: v :: rest) = .rx3Reserved := by
  simp [decode, h, decodeRxWords, f0, f1, hz]

/-- The halfwords of an RX op code are the words of some operand, or too few, or an RX3 encoding that is
refused, whatever follows (R120). -/
theorem rxWords_cases (h : opClass op = .rx) :
    decode (firstHalf op r1 r2 :: rest) = .short ∨
      (∀ more, decode (firstHalf op r1 r2 :: rest ++ more) = .rx3Reserved) ∨
      ∃ rx tail, firstHalf op r1 r2 :: rest = encodeRx op r1 rx ++ tail := by
  rcases rest with _ | ⟨w, rest⟩
  · exact .inl (by simp [decode, h])
  cases h0 : w.getMsbD 0 with
  | true =>
    refine .inr (.inr ⟨.rx2 r2 (w.extractLsb' 0 15), rest, ?_⟩)
    rw [encodeRx, ← rx2Word_of_form h0]
    rfl
  | false =>
    cases h1 : w.getMsbD 1 with
    | false =>
      refine .inr (.inr ⟨.rx1 r2 (w.extractLsb' 0 14), rest, ?_⟩)
      rw [encodeRx, ← rx1Word_of_form h0 h1]
      rfl
    | true =>
      rcases rest with _ | ⟨v, rest⟩
      · exact .inl (by simp [decode, h, decodeRxWords, h0, h1])
      by_cases hz : w.extractLsb' 12 2 = 0#2
      · refine .inr (.inr ⟨.rx3 r2 (w.extractLsb' 8 4) (w.extractLsb' 0 8 ++ v), rest, ?_⟩)
        have high : (w.extractLsb' 0 8 ++ v).extractLsb' 16 8 = w.extractLsb' 0 8 :=
          BitVec.extractLsb'_append_eq_left
        have low : (w.extractLsb' 0 8 ++ v).extractLsb' 0 16 = v := BitVec.extractLsb'_append_eq_right
        rw [encodeRx, high, low, ← rx3Word_of_form h0 h1 hz]
        rfl
      · exact .inr (.inl fun more => decode_rx3Reserved _ v (by simpa using h) h0 h1 hz)

end Formats

/-! ## The jumps on condition and their extended mnemonics (R133, R269) -/

/-- If it is an instruction, it is well-formed and these are its words. -/
def Decoded.Words (ws : List Half) : Decoded → Prop
  | .instr i => i.wellFormed = true ∧ encode i = ws
  | _ => True

/-- `name` gives each mask of a jump on condition the one instruction that has the words `words`: the
`general` one wherever that is well-formed, else an extended mnemonic. -/
structure NamesMasks (name general : Nib → Instr) (words : Nib → List Half) : Prop where
  unnamed : ∀ mask, (general mask).wellFormed = true → name mask = general mask
  words : ∀ mask, (Decoded.instr (name mask)).Words (words mask)

theorem nameJt_names (rx : RxAddr) : NamesMasks (nameJt · rx) (.jt · rx) (encodeRx 0x42#8 · rx) where
  unnamed mask h := by simp_all [nameJt, Instr.wellFormed, namedMask]
  words mask := by fun_cases nameJt mask rx <;> simp_all [Decoded.Words, Instr.wellFormed, namedMask, encode]

theorem nameJf_names (rx : RxAddr) : NamesMasks (nameJf · rx) (.jf · rx) (encodeRx 0x43#8 · rx) where
  unnamed mask h := by simp_all [nameJf, Instr.wellFormed, namedMask]
  words mask := by fun_cases nameJf mask rx <;> simp_all [Decoded.Words, Instr.wellFormed, namedMask, encode]

theorem nameJtr_names (r2 : Reg) :
    NamesMasks (nameJtr · r2) (.jtr · r2) fun mask => [firstHalf 0x02#8 mask r2] where
  unnamed mask h := by simp_all [nameJtr, Instr.wellFormed, namedMask]
  words mask := by fun_cases nameJtr mask r2 <;> simp_all [Decoded.Words, Instr.wellFormed, namedMask, encode]

theorem nameJfr_names (r2 : Reg) :
    NamesMasks (nameJfr · r2) (.jfr · r2) fun mask => [firstHalf 0x03#8 mask r2] where
  unnamed mask h := by simp_all [nameJfr, Instr.wellFormed, namedMask]
  words mask := by fun_cases nameJfr mask r2 <;> simp_all [Decoded.Words, Instr.wellFormed, namedMask, encode]

theorem nameJtbs_names (n : Nib) :
    NamesMasks (nameJtbs · n) (.jtbs · n) fun mask => [firstHalf 0x20#8 mask n] where
  unnamed mask h := by simp_all [nameJtbs, Instr.wellFormed, namedShortTrueMask]
  words mask := by
    fun_cases nameJtbs mask n <;> simp_all [Decoded.Words, Instr.wellFormed, namedShortTrueMask, encode]

theorem nameJtfs_names (n : Nib) :
    NamesMasks (nameJtfs · n) (.jtfs · n) fun mask => [firstHalf 0x21#8 mask n] where
  unnamed mask h := by simp_all [nameJtfs, Instr.wellFormed, namedShortTrueMask]
  words mask := by
    fun_cases nameJtfs mask n <;> simp_all [Decoded.Words, Instr.wellFormed, namedShortTrueMask, encode]

theorem nameJfbs_names (n : Nib) :
    NamesMasks (nameJfbs · n) (.jfbs · n) fun mask => [firstHalf 0x22#8 mask n] where
  unnamed mask h := by simp_all [nameJfbs, Instr.wellFormed, namedMask]
  words mask := by fun_cases nameJfbs mask n <;> simp_all [Decoded.Words, Instr.wellFormed, namedMask, encode]

theorem nameJffs_names (n : Nib) :
    NamesMasks (nameJffs · n) (.jffs · n) fun mask => [firstHalf 0x23#8 mask n] where
  unnamed mask h := by simp_all [nameJffs, Instr.wellFormed, namedMask]
  words mask := by fun_cases nameJffs mask n <;> simp_all [Decoded.Words, Instr.wellFormed, namedMask, encode]

/-! ## From the instruction to its words -/

/-- The format of an instruction (R111): its words and its length, and the class and the decoder's answer for
its op code. -/
inductive HasFormat (i : Instr) : Prop where
  | rr {op : Byte} {r1 r2 : Reg} (cls : opClass op = .rr) (words : encode i = [firstHalf op r1 r2])
      (length : i.length = 2) (answer : decodeRr op r1 r2 = .instr i)
  | sf {op : Byte} {r1 : Reg} {n : Nib} (cls : opClass op = .sf) (words : encode i = [firstHalf op r1 n])
      (length : i.length = 2) (answer : decodeSf op r1 n = .instr i)
  | rx {op : Byte} {r1 : Reg} {rx : RxAddr} (cls : opClass op = .rx) (words : encode i = encodeRx op r1 rx)
      (length : i.length = rx.length) (answer : decodeRx op r1 rx = .instr i)
  | ri1 {op : Byte} {r1 x2 : Reg} {i2 : Half} (cls : opClass op = .ri1)
      (words : encode i = [firstHalf op r1 x2, i2]) (length : i.length = 4)
      (answer : decodeRi1 op r1 x2 i2 = .instr i)
  | ri2 {op : Byte} {r1 x2 : Reg} {i2 : Word} (cls : opClass op = .ri2)
      (words : encode i = [firstHalf op r1 x2, i2.extractLsb' 16 16, i2.extractLsb' 0 16])
      (length : i.length = 6) (answer : decodeRi2 op r1 x2 i2 = .instr i)

theorem hasFormat_of_wellFormed {i : Instr} (h : i.wellFormed = true) : HasFormat i := by
  cases i with
  | jt mask rx => exact .rx rfl rfl rfl (congrArg Decoded.instr ((nameJt_names rx).unnamed mask h))
  | jf mask rx => exact .rx rfl rfl rfl (congrArg Decoded.instr ((nameJf_names rx).unnamed mask h))
  | jtr mask r2 => exact .rr rfl rfl rfl (congrArg Decoded.instr ((nameJtr_names r2).unnamed mask h))
  | jfr mask r2 => exact .rr rfl rfl rfl (congrArg Decoded.instr ((nameJfr_names r2).unnamed mask h))
  | jtbs mask n => exact .sf rfl rfl rfl (congrArg Decoded.instr ((nameJtbs_names n).unnamed mask h))
  | jtfs mask n => exact .sf rfl rfl rfl (congrArg Decoded.instr ((nameJtfs_names n).unnamed mask h))
  | jfbs mask n => exact .sf rfl rfl rfl (congrArg Decoded.instr ((nameJfbs_names n).unnamed mask h))
  | jffs mask n => exact .sf rfl rfl rfl (congrArg Decoded.instr ((nameJffs_names n).unnamed mask h))
  | jalr | nr | clr | or | xr | lr | cr | ar | sr | mhr | dhr | rma1 | rma2 | lhr | sbod | xmit | spm |
    gchar | lpswr | mr | dr | exhr | scan | align | cksum | gci | wci | cbct | rtd1 | rtd2 | arand |
    copy | stbr | lbr | exbr | epsr | cio | wdr | rdr | ssr | ocr | nopr | jr | jer | jnr | jgr | jger |
    jler | jlr | jcr | jncr =>
    exact .rr rfl rfl rfl rfl
  | srls | slls | lis | lcs | ais | sis | jffo | jffoh | srhls | slhls | jbs | jfs | jebs | jefs | jnbs |
    jnfs | jgbs | jgfs | jgebs | jgefs | jlebs | jlefs | jlbs | jlfs | jcbs | jcfs | jncbs | jncfs =>
    exact .sf rfl rfl rfl rfl
  | sth | jal | nh | clh | oh | xh | lh | ch | ah | sh | mh | dh | st | am | n | cl | o | x | l | c | a |
    s | m | d | ahm | lhl | tbt | sbt | rbt | cbt | lpsw | srhl | slhl | stm | lm | stb | lb | clb |
    upsw | wd | oc | ts | svc | la | rrl | rll | srl | sll | sra | nop | j | je | jn | jg | jge | jle |
    jl | jc | jnc =>
    exact .rx rfl rfl rfl rfl
  | thi | nhi | clhi | ohi | xhi | lhi | chi | ahi | shi =>
    exact .ri1 rfl rfl rfl rfl
  | ti | ni | cli | oi | xi | li | ci | ai | si =>
    exact .ri2 rfl rfl rfl rfl

/-- The words of an instruction are as many as its length says (R111). -/
theorem encode_length {i : Instr} (h : i.wellFormed = true) : 2 * (encode i).length = i.length := by
  cases hasFormat_of_wellFormed h with
  | rx cls words length answer => rw [words, length, encodeRx_length]
  | rr cls words length answer | sf cls words length answer | ri1 cls words length answer
    | ri2 cls words length answer =>
    rw [words, length]
    rfl

/-- Settles O7: format by format, the decoder's answer for the words. -/
theorem decodeEncode : Obligations.DecodeEncode := by
  intro i rest h
  cases hasFormat_of_wellFormed h with
  | rr cls words length answer => rw [words, List.singleton_append, decode_rr _ _ _ cls, answer]
  | sf cls words length answer => rw [words, List.singleton_append, decode_sf _ _ _ cls, answer]
  | rx cls words length answer => rw [words, decode_rx _ _ cls, answer]
  | ri1 cls words length answer => exact words ▸ (decode_ri1 _ _ rest cls _).trans answer
  | @ri2 op r1 x2 i2 cls words length answer =>
    have field : i2.extractLsb' 16 16 ++ i2.extractLsb' 0 16 = i2 :=
      BitVec.extractLsb'_append_extractLsb'
    exact words ▸ (decode_ri2 r1 x2 rest cls _ _).trans ((congrArg _ field).trans answer)

/-! ## From the words to the instruction -/

/-- JTR and JFR are the second and third op codes of the table, the last arm every other op code. -/
theorem decodeRr_words (op : Byte) (r1 r2 : Reg) : (decodeRr op r1 r2).Words [firstHalf op r1 r2] := by
  unfold decodeRr
  split
  case h_2 => exact (nameJtr_names r2).words r1
  case h_3 => exact (nameJfr_names r2).words r1
  case h_44 => exact trivial
  all_goals exact ⟨rfl, rfl⟩

/-- The short jumps are the third to the sixth op codes of the table, the last arm every other op code. -/
theorem decodeSf_words (op : Byte) (r1 : Reg) (n : Nib) : (decodeSf op r1 n).Words [firstHalf op r1 n] := by
  unfold decodeSf
  split
  case h_3 => exact (nameJtbs_names n).words r1
  case h_4 => exact (nameJtfs_names n).words r1
  case h_5 => exact (nameJfbs_names n).words r1
  case h_6 => exact (nameJffs_names n).words r1
  case h_15 => exact trivial
  all_goals exact ⟨rfl, rfl⟩

/-- JT and JF are the third and fourth op codes of the table, the last arm every other op code. -/
theorem decodeRx_words (op : Byte) (r1 : Reg) (rx : RxAddr) :
    (decodeRx op r1 rx).Words (encodeRx op r1 rx) := by
  unfold decodeRx
  split
  case h_3 => exact (nameJt_names rx).words r1
  case h_4 => exact (nameJf_names rx).words r1
  case h_52 => exact trivial
  all_goals exact ⟨rfl, rfl⟩

theorem decodeRi1_words (op : Byte) (r1 x2 : Reg) (i2 : Half) :
    (decodeRi1 op r1 x2 i2).Words [firstHalf op r1 x2, i2] := by
  unfold decodeRi1
  split
  case h_10 => exact trivial
  all_goals exact ⟨rfl, rfl⟩

theorem decodeRi2_words (op : Byte) (r1 x2 : Reg) (h1 h2 : Half) :
    (decodeRi2 op r1 x2 (h1 ++ h2)).Words [firstHalf op r1 x2, h1, h2] := by
  have left : (h1 ++ h2).extractLsb' 16 16 = h1 := BitVec.extractLsb'_append_eq_left
  have right : (h1 ++ h2).extractLsb' 0 16 = h2 := BitVec.extractLsb'_append_eq_right
  unfold decodeRi2
  split
  case h_10 => exact trivial
  all_goals exact ⟨rfl, by rw [encode, left, right]⟩

/-- An instruction's words, at the beginning of the halfwords they were read from. -/
theorem Decoded.Words.begins {d : Decoded} {ws hs : List Half} {i : Instr} (h : d.Words ws)
    (hd : d = .instr i) (hp : ws <+: hs) : i.wellFormed = true ∧ encode i <+: hs := by
  subst hd
  obtain ⟨wf, words⟩ := h
  exact ⟨wf, words ▸ hp⟩

/-- Settles O8: by the class of the op code, what each format's decoder answers has the words it was read
from. -/
theorem encodeDecode : Obligations.EncodeDecode := by
  intro hs i hd
  rcases hs with _ | ⟨h0, rest⟩
  · cases hd
  obtain ⟨op, r1, r2, rfl⟩ : ∃ op r1 r2, h0 = firstHalf op r1 r2 := ⟨_, _, _, (firstHalf_fields h0).symm⟩
  cases cls : opClass op with
  | rr => exact (decodeRr_words op r1 r2).begins (decode_rr r1 r2 rest cls ▸ hd) ⟨rest, rfl⟩
  | sf => exact (decodeSf_words op r1 r2).begins (decode_sf r1 r2 rest cls ▸ hd) ⟨rest, rfl⟩
  | rx =>
    rcases rxWords_cases r1 r2 rest cls with short | reserved | ⟨rx, tail, words⟩
    · rw [short] at hd
      cases hd
    · rw [← List.append_nil (_ :: rest), reserved] at hd
      cases hd
    · rw [words] at hd ⊢
      exact (decodeRx_words op r1 rx).begins (decode_rx r1 tail cls rx ▸ hd) ⟨tail, rfl⟩
  | ri1 =>
    rcases rest with _ | ⟨h1, rest⟩
    · simp [decode, cls] at hd
    · exact (decodeRi1_words op r1 r2 h1).begins (decode_ri1 r1 r2 rest cls h1 ▸ hd) ⟨rest, rfl⟩
  | ri2 =>
    rcases rest with _ | ⟨h1, _ | ⟨h2, rest⟩⟩
    · simp [decode, cls] at hd
    · simp [decode, cls] at hd
    · exact (decodeRi2_words op r1 r2 h1 h2).begins (decode_ri2 r1 r2 rest cls h1 h2 ▸ hd) ⟨rest, rfl⟩
  | illegal => simp [decode, cls] at hd

/-! ## What is no instruction -/

theorem decode_illegal {h0 : Half} (rest : List Half) (h : opClass (opField h0) = .illegal) :
    decode (h0 :: rest) = .illegal := by
  simp [decode, h]

/-- Settles O10: by the op code alone, the table of all op codes, and bits 18:19 of an RX3 encoding. -/
theorem noInstruction : Obligations.NoInstruction := by
  refine ⟨fun _ rest h => decode_illegal rest h, by decide +kernel, fun h0 h1 h2 rest cls form reserved => ?_⟩
  obtain ⟨f0, f1⟩ := rx3Form_of_field form
  exact decode_rx3Reserved rest h2 cls f0 f1 reserved

/-- Settles O9: the decoder runs on each of the words. -/
theorem decodeExamples : Obligations.DecodeExamples := by
  unfold Obligations.DecodeExamples
  decide

end Sys2Proof

/-! # The extended jumps

An extended mnemonic is a jump on condition with a fixed mask (R133, R269): how those jumps complete, once for each
kind of target, then what each mask that has a mnemonic selects of the condition code. -/

namespace Sys2Proof.Machine

/-! ## How a jump completes (R274) -/

section Jumps

variable {i j : Instr} {taken cond : State → Bool} {place : State → Addr}

/-- A jump by a condition and to a target that the start of the instruction does not change. -/
theorem jumpsWhen_of_jumpIf (target : State → Addr)
    (hi : ∀ s, exec i s = jumpIf i.length taken target s) (hc : ∀ s : State, taken s.begin = taken s)
    (ht : ∀ s : State, target s.begin = place s) :
    JumpsWhen i taken place := by
  refine fun s => ⟨fun no => ?notTaken, fun yes untraced even => ?taken, fun yes odd => ?odd⟩
  case notTaken =>
    rw [hi]
    exact transfer_ok (if_neg (by simp [hc, no])) rfl
  case taken =>
    rw [hi, jumpIf]
    refine transfer_ok ?_ rfl
    rw [if_pos (by rw [hc, yes]), ht]
    exact jumpTo_untraced even untraced
  case odd =>
    rw [hi, jumpIf, transfer, if_pos (by rw [hc, yes]), ht, jumpTo_odd _ odd]
    rfl

/-- Another name of the same jump, and its condition said by flags. -/
theorem jumpsWhen_renamed (h : JumpsWhen j cond place) (he : ∀ s, exec i s = exec j s)
    (hl : i.length = j.length) (hc : ∀ s, cond s = taken s) : JumpsWhen i taken place := by
  obtain rfl : cond = taken := funext hc
  intro s
  rw [he, hl]
  exact h s

end Jumps

/-! ## Where a jump goes (R274) -/

theorem targetRx_begin (rx : RxAddr) (s : State) : s.begin.targetRx rx = (s.effAddr rx).setWidth 20 := by
  cases rx <;> rfl

/-- N halfwords are 2N bytes. -/
theorem twice_short (n : Nib) : 2#20 * n.setWidth 20 = BitVec.ofNat 20 (2 * n.toNat) := by
  apply BitVec.eq_of_toNat_eq
  simp

theorem targetForward_begin (n : Nib) (s : State) :
    s.begin.targetForward n = s.pc + BitVec.ofNat 20 (2 * n.toNat) :=
  congrArg (s.pc + ·) (twice_short n)

theorem targetBackward_begin (n : Nib) (s : State) :
    s.begin.targetBackward n = s.pc - BitVec.ofNat 20 (2 * n.toNat) :=
  congrArg (s.pc - ·) (twice_short n)

/-! ## The jumps on condition (R261 to R268) -/

section OnCondition

variable (mask n : Nib) (r2 : Reg) (rx : RxAddr)

theorem jt_jumps :
    JumpsWhen (.jt mask rx) (fun s => s.psw.meets mask) fun s => (s.effAddr rx).setWidth 20 :=
  jumpsWhen_of_jumpIf (·.targetRx rx) (exec_jt mask rx) (fun _ => rfl) (targetRx_begin rx)

theorem jf_jumps :
    JumpsWhen (.jf mask rx) (fun s => !s.psw.meets mask) fun s => (s.effAddr rx).setWidth 20 :=
  jumpsWhen_of_jumpIf (·.targetRx rx) (exec_jf mask rx) (fun _ => rfl) (targetRx_begin rx)

theorem jtr_jumps :
    JumpsWhen (.jtr mask r2) (fun s => s.psw.meets mask) fun s => (s.reg r2).setWidth 20 :=
  jumpsWhen_of_jumpIf (·.targetReg r2) (exec_jtr mask r2) (fun _ => rfl) fun _ => rfl

theorem jfr_jumps :
    JumpsWhen (.jfr mask r2) (fun s => !s.psw.meets mask) fun s => (s.reg r2).setWidth 20 :=
  jumpsWhen_of_jumpIf (·.targetReg r2) (exec_jfr mask r2) (fun _ => rfl) fun _ => rfl

theorem jtbs_jumps :
    JumpsWhen (.jtbs mask n) (fun s => s.psw.meets mask) fun s => s.pc - BitVec.ofNat 20 (2 * n.toNat) :=
  jumpsWhen_of_jumpIf (·.targetBackward n) (exec_jtbs mask n) (fun _ => rfl) (targetBackward_begin n)

theorem jtfs_jumps :
    JumpsWhen (.jtfs mask n) (fun s => s.psw.meets mask) fun s => s.pc + BitVec.ofNat 20 (2 * n.toNat) :=
  jumpsWhen_of_jumpIf (·.targetForward n) (exec_jtfs mask n) (fun _ => rfl) (targetForward_begin n)

theorem jfbs_jumps :
    JumpsWhen (.jfbs mask n) (fun s => !s.psw.meets mask) fun s => s.pc - BitVec.ofNat 20 (2 * n.toNat) :=
  jumpsWhen_of_jumpIf (·.targetBackward n) (exec_jfbs mask n) (fun _ => rfl) (targetBackward_begin n)

theorem jffs_jumps :
    JumpsWhen (.jffs mask n) (fun s => !s.psw.meets mask) fun s => s.pc + BitVec.ofNat 20 (2 * n.toNat) :=
  jumpsWhen_of_jumpIf (·.targetForward n) (exec_jffs mask n) (fun _ => rfl) (targetForward_begin n)

end OnCondition

/-! ## What the masks with a mnemonic select (R269) -/

@[simp] theorem meets_zero (q : Psw) : q.meets 0#4 = false := by simp [Psw.meets]

@[simp] theorem meets_l (q : Psw) : q.meets 1#4 = q.l := by simp [Psw.meets]

@[simp] theorem meets_g (q : Psw) : q.meets 2#4 = q.g := by simp [Psw.meets]

@[simp] theorem meets_gl (q : Psw) : q.meets 3#4 = (q.g || q.l) := by simp [Psw.meets]

@[simp] theorem meets_c (q : Psw) : q.meets 8#4 = q.c := by simp [Psw.meets]

/-! ## The mnemonics -/

/-- Settles O35: each mnemonic by the jump on condition it is and what its mask selects. -/
theorem extendedJumps : Obligations.ExtendedJumps := by
  intro rx r2
  refine ⟨⟨?nop, ?nopr⟩, ⟨?j, ?jr⟩, ⟨?je, ?jer⟩, ⟨?jn, ?jnr⟩, ⟨?jg, ?jgr⟩, ⟨?jge, ?jger⟩, ⟨?jle, ?jler⟩,
    ⟨?jl, ?jlr⟩, ⟨?jc, ?jcr⟩, ⟨?jnc, ?jncr⟩⟩
  case nop => exact jumpsWhen_renamed (jt_jumps 0#4 rx) (fun _ => rfl) rfl fun _ => by simp
  case nopr => exact jumpsWhen_renamed (jtr_jumps 0#4 r2) (fun _ => rfl) rfl fun _ => by simp
  case j => exact jumpsWhen_renamed (jf_jumps 0#4 rx) (fun _ => rfl) rfl fun _ => by simp
  case jr => exact jumpsWhen_renamed (jfr_jumps 0#4 r2) (fun _ => rfl) rfl fun _ => by simp
  case je => exact jumpsWhen_renamed (jf_jumps 3#4 rx) (fun _ => rfl) rfl fun _ => by simp
  case jer => exact jumpsWhen_renamed (jfr_jumps 3#4 r2) (fun _ => rfl) rfl fun _ => by simp
  case jn => exact jumpsWhen_renamed (jt_jumps 3#4 rx) (fun _ => rfl) rfl fun _ => by simp
  case jnr => exact jumpsWhen_renamed (jtr_jumps 3#4 r2) (fun _ => rfl) rfl fun _ => by simp
  case jg => exact jumpsWhen_renamed (jt_jumps 2#4 rx) (fun _ => rfl) rfl fun _ => by simp
  case jgr => exact jumpsWhen_renamed (jtr_jumps 2#4 r2) (fun _ => rfl) rfl fun _ => by simp
  case jge => exact jumpsWhen_renamed (jf_jumps 1#4 rx) (fun _ => rfl) rfl fun _ => by simp
  case jger => exact jumpsWhen_renamed (jfr_jumps 1#4 r2) (fun _ => rfl) rfl fun _ => by simp
  case jle => exact jumpsWhen_renamed (jf_jumps 2#4 rx) (fun _ => rfl) rfl fun _ => by simp
  case jler => exact jumpsWhen_renamed (jfr_jumps 2#4 r2) (fun _ => rfl) rfl fun _ => by simp
  case jl => exact jumpsWhen_renamed (jt_jumps 1#4 rx) (fun _ => rfl) rfl fun _ => by simp
  case jlr => exact jumpsWhen_renamed (jtr_jumps 1#4 r2) (fun _ => rfl) rfl fun _ => by simp
  case jc => exact jumpsWhen_renamed (jt_jumps 8#4 rx) (fun _ => rfl) rfl fun _ => by simp
  case jcr => exact jumpsWhen_renamed (jtr_jumps 8#4 r2) (fun _ => rfl) rfl fun _ => by simp
  case jnc => exact jumpsWhen_renamed (jf_jumps 8#4 rx) (fun _ => rfl) rfl fun _ => by simp
  case jncr => exact jumpsWhen_renamed (jfr_jumps 8#4 r2) (fun _ => rfl) rfl fun _ => by simp

/-- Settles O36: the same for the short jumps, which have no NOP. -/
theorem extendedShortJumps : Obligations.ExtendedShortJumps := by
  intro n
  refine ⟨⟨?jbs, ?jfs⟩, ⟨?jebs, ?jefs⟩, ⟨?jnbs, ?jnfs⟩, ⟨?jgbs, ?jgfs⟩, ⟨?jgebs, ?jgefs⟩, ⟨?jlebs,
    ?jlefs⟩, ⟨?jlbs, ?jlfs⟩, ⟨?jcbs, ?jcfs⟩, ⟨?jncbs, ?jncfs⟩⟩
  case jbs => exact jumpsWhen_renamed (jfbs_jumps 0#4 n) (fun _ => rfl) rfl fun _ => by simp
  case jfs => exact jumpsWhen_renamed (jffs_jumps 0#4 n) (fun _ => rfl) rfl fun _ => by simp
  case jebs => exact jumpsWhen_renamed (jfbs_jumps 3#4 n) (fun _ => rfl) rfl fun _ => by simp
  case jefs => exact jumpsWhen_renamed (jffs_jumps 3#4 n) (fun _ => rfl) rfl fun _ => by simp
  case jnbs => exact jumpsWhen_renamed (jtbs_jumps 3#4 n) (fun _ => rfl) rfl fun _ => by simp
  case jnfs => exact jumpsWhen_renamed (jtfs_jumps 3#4 n) (fun _ => rfl) rfl fun _ => by simp
  case jgbs => exact jumpsWhen_renamed (jtbs_jumps 2#4 n) (fun _ => rfl) rfl fun _ => by simp
  case jgfs => exact jumpsWhen_renamed (jtfs_jumps 2#4 n) (fun _ => rfl) rfl fun _ => by simp
  case jgebs => exact jumpsWhen_renamed (jfbs_jumps 1#4 n) (fun _ => rfl) rfl fun _ => by simp
  case jgefs => exact jumpsWhen_renamed (jffs_jumps 1#4 n) (fun _ => rfl) rfl fun _ => by simp
  case jlebs => exact jumpsWhen_renamed (jfbs_jumps 2#4 n) (fun _ => rfl) rfl fun _ => by simp
  case jlefs => exact jumpsWhen_renamed (jffs_jumps 2#4 n) (fun _ => rfl) rfl fun _ => by simp
  case jlbs => exact jumpsWhen_renamed (jtbs_jumps 1#4 n) (fun _ => rfl) rfl fun _ => by simp
  case jlfs => exact jumpsWhen_renamed (jtfs_jumps 1#4 n) (fun _ => rfl) rfl fun _ => by simp
  case jcbs => exact jumpsWhen_renamed (jtbs_jumps 8#4 n) (fun _ => rfl) rfl fun _ => by simp
  case jcfs => exact jumpsWhen_renamed (jtfs_jumps 8#4 n) (fun _ => rfl) rfl fun _ => by simp
  case jncbs => exact jumpsWhen_renamed (jfbs_jumps 8#4 n) (fun _ => rfl) rfl fun _ => by simp
  case jncfs => exact jumpsWhen_renamed (jffs_jumps 8#4 n) (fun _ => rfl) rfl fun _ => by simp

end Sys2Proof.Machine

/-! # The effective address -/

namespace Sys2Proof.Machine

/-- An index register's contribution, as an integer (R116). -/
theorem idx_eq (s : State) (f : Reg) : s.idx f = BitVec.ofInt 32 (if f = 0#4 then 0 else (s.reg f).toInt) := by
  by_cases h : f = 0#4 <;> simp [State.idx, h]

/-- An unsigned field widened to an address, as an integer. -/
theorem setWidth_eq_ofInt {w : Nat} (v : BitVec w) : v.setWidth 32 = BitVec.ofInt 32 v.toNat := by
  rw [BitVec.ofInt_natCast, BitVec.ofNat_toNat]

/-- Settles O21: each summand is its integer modulo 2^32, and so is the sum. -/
theorem effectiveAddress : Obligations.EffectiveAddress := by
  intro s x2 x2p a14 d15 a24 index
  have indexed (f : Reg) : s.idx f = BitVec.ofInt 32 (index f) := idx_eq s f
  refine ⟨?rx1, ?rx2, ?rx3⟩
  case rx1 => rw [State.effAddr, indexed, setWidth_eq_ofInt, BitVec.ofInt_add]
  case rx2 =>
    have four : 4#32 = BitVec.ofInt 32 4 := rfl
    have displaced : d15.signExtend 32 = BitVec.ofInt 32 d15.toInt := rfl
    rw [State.effAddr, indexed, pcImage, setWidth_eq_ofInt, displaced, four]
    simp only [BitVec.ofInt_add]
  case rx3 => rw [State.effAddr, indexed, indexed, setWidth_eq_ofInt, BitVec.ofInt_add, BitVec.ofInt_add]

end Sys2Proof.Machine

/-! # The fetch and the step

Halfwords are fetched until they decode (R123). A proper beginning of an instruction's words does not, so the
fetch takes the whole of them and no more. -/

namespace Sys2Proof

/-- What decodes decodes the same with more halfwords behind it (R123). -/
theorem decode_append {hs : List Half} (more : List Half) (h : decode hs ≠ .short) :
    decode (hs ++ more) = decode hs := by
  rcases hs with _ | ⟨h0, rest⟩
  · exact absurd rfl h
  obtain ⟨op, r1, r2, rfl⟩ : ∃ op r1 r2, h0 = firstHalf op r1 r2 := ⟨_, _, _, (firstHalf_fields h0).symm⟩
  rw [List.cons_append]
  cases cls : opClass op with
  | illegal => rw [decode_illegal _ (by simpa using cls), decode_illegal _ (by simpa using cls)]
  | rr => rw [decode_rr _ _ _ cls, decode_rr _ _ _ cls]
  | sf => rw [decode_sf _ _ _ cls, decode_sf _ _ _ cls]
  | rx =>
    rcases rxWords_cases r1 r2 rest cls with short | reserved | ⟨rx, tail, words⟩
    · exact absurd short h
    · exact (reserved more).trans (List.append_nil (_ :: rest) ▸ reserved []).symm
    · rw [← List.cons_append, words, List.append_assoc, decode_rx _ _ cls, decode_rx _ _ cls]
  | ri1 =>
    rcases rest with _ | ⟨h1, rest⟩
    · exact absurd (by simp [decode, cls]) h
    · rw [List.cons_append, decode_ri1 _ _ _ cls, decode_ri1 _ _ _ cls]
  | ri2 =>
    rcases rest with _ | ⟨h1, _ | ⟨h2, rest⟩⟩
    · exact absurd (by simp [decode, cls]) h
    · exact absurd (by simp [decode, cls]) h
    · rw [List.cons_append, List.cons_append, decode_ri2 _ _ _ cls, decode_ri2 _ _ _ cls]

/-- The halfwords of an instruction, as many as its length says, and no fewer decode. -/
theorem decode_beginning_short {hs more : List Half} {i : Instr} (hd : decode (hs ++ more) = .instr i)
    (hl : 2 * (hs ++ more).length = i.length) (hm : more ≠ []) : decode hs = .short := by
  by_contra hs_decodes
  rw [decode_append more hs_decodes] at hd
  obtain ⟨wf, words⟩ := encodeDecode hs i hd
  have few : (encode i).length ≤ hs.length := words.length_le
  have all := encode_length wf
  have rest : 0 < more.length := List.length_pos_iff.2 hm
  rw [List.length_append] at hl
  omega

end Sys2Proof

namespace Sys2Proof.Machine

/-- One halfword more is fetched (R123). -/
theorem fetchFrom_half {s : State} {a : Addr} {h : Half} (n : Nat) {hs : List Half}
    (short : decode hs = .short) (e : s.halfAt .fetch a = some h) :
    fetchFrom (n + 1) hs a s = fetchFrom n (hs ++ [h]) (a + 2#20) s := by
  unfold State.halfAt at e
  rw [fetchFrom, if_pos short]
  cases place : translate .fetch (evenAddr a) s with
  | ok pa =>
    rw [place] at e
    simp only [absReadHalf_of_absHalf e]
  | error cause =>
    rw [place] at e
    cases e

/-- Nothing is fetched after halfwords that decode. -/
theorem fetchFrom_decoded {s : State} {a : Addr} (n : Nat) {hs : List Half} (h : decode hs ≠ .short) :
    fetchFrom n hs a s = .of (decode hs) s := by
  cases n with
  | zero => rfl
  | succ n => rw [fetchFrom, if_neg h]

/-- An instruction of which `hs` have been fetched, and of which the words still to come can be. -/
theorem fetchFrom_instr {s : State} {i : Instr} {n : Nat} {hs more : List Half} {a : Addr}
    (hd : decode (hs ++ more) = .instr i) (hl : 2 * (hs ++ more).length = i.length) (hn : more.length ≤ n)
    (hf : ∀ k, k < more.length → s.halfAt .fetch (a + BitVec.ofNat 20 (2 * k)) = some (more.getD k 0#16)) :
    fetchFrom n hs a s = .instr i s := by
  induction more generalizing n hs a with
  | nil =>
    rw [List.append_nil] at hd
    rw [fetchFrom_decoded n (by simp [hd]), hd]
    rfl
  | cons h more ih =>
    obtain ⟨n, rfl⟩ : ∃ m, n = m + 1 := ⟨n - 1, by rw [List.length_cons] at hn; omega⟩
    have first : s.halfAt .fetch a = some h := by simpa using hf 0 (by simp)
    rw [fetchFrom_half n (decode_beginning_short hd hl (by simp)) first]
    refine ih (by simpa using hd) (by simpa using hl) (by simpa using hn) fun k hk => ?_
    have next := hf (k + 1) (by simpa using hk)
    have place : a + BitVec.ofNat 20 (2 * (k + 1)) = a + 2#20 + BitVec.ofNat 20 (2 * k) := by
      rw [BitVec.add_assoc, ← BitVec.ofNat_add]
      congr 2
      omega
    rwa [place, List.getD_cons_succ] at next

/-- No instruction has more than three halfwords (R111). -/
theorem length_le_six {i : Instr} (h : i.wellFormed = true) : i.length ≤ 6 := by
  cases hasFormat_of_wellFormed h with
  | @rx op r1 rx cls words length answer =>
    rw [length]
    cases rx <;> simp [RxAddr.length]
  | rr cls words length answer | sf cls words length answer | ri1 cls words length answer
    | ri2 cls words length answer => omega

/-- Settles O11: the whole of the instruction is fetched, and runs. -/
theorem stepRunsDecoded : Obligations.StepRunsDecoded := by
  rintro s t hs i hq rfl hd hl hf
  have three : hs.length ≤ 3 := by
    have := length_le_six (encodeDecode hs i hd).1
    omega
  have fetched : fetchInstr s.nextEvents = .instr i s.nextEvents.noteFetch :=
    fetchFrom_instr (hs := []) hd hl three hf
  rw [step_quiet hq, runInstruction, fetched]

/-- Settles O12: the halfword fetched is enough to be illegal, and the interrupt is taken. -/
theorem stepTakesIllegal : Obligations.StepTakesIllegal := by
  rintro s t h0 newPsw newPc hq rfl hf cls ctx
  have illegal : decode [h0] = .illegal := decode_illegal [] cls
  have fetched : fetchInstr s.nextEvents = .illegal s.nextEvents.noteFetch := by
    refine (fetchFrom_half 2 (hs := []) rfl hf).trans ?_
    rw [List.nil_append, fetchFrom_decoded 2 (by simp [illegal]), illegal]
    rfl
  rw [step_quiet hq, runInstruction, fetched]
  exact takeIllegal_value ctx

end Sys2Proof.Machine

/-! # The loads that read no memory

Each by `load_value`: its operand is computed from registers alone (R154 to R159, R163 to R165, R320). -/

namespace Sys2Proof.Machine

/-- A load whose operand the registers give, and what it loads (R150, R151). -/
theorem loadOf_value {s : State} {r1 : Reg} {len : Nat} {f : State → Word} {v : Word} (h : f s.begin = v) :
    load len (operandOf f) r1 s = .next (s.loaded r1 v len) :=
  load_value (operand := operandOf f) (u := s.begin) (by rw [operandOf, h]) rfl

/-! ## Operands as numbers -/

theorem immediateHalf_eq (s : State) (x2 : Reg) (h : Half) :
    s.immediateHalf x2 h = BitVec.ofInt 32 (h.toInt + (s.idx x2).toInt) := by
  rw [State.immediateHalf, BitVec.ofInt_add, BitVec.ofInt_toInt, BitVec.signExtend]

theorem shortOperand_eq (n : Nib) : shortOperand n = BitVec.ofNat 32 n.toNat :=
  (BitVec.ofNat_toNat 32 n).symm

/-- The operand of LCS: the two's complement of N (R158). -/
theorem zero_sub_shortOperand (n : Nib) : 0#32 - shortOperand n = BitVec.ofInt 32 (-n.toNat) := by
  rw [shortOperand_eq, BitVec.zero_sub, BitVec.ofInt_neg, BitVec.ofInt_natCast]

theorem setWidth_lowByte (w : Word) :
    ((w.setWidth 8 : Byte).setWidth 32 : Word) = BitVec.ofNat 32 (w.toNat % 256) := by
  rw [← BitVec.ofNat_toNat 32, BitVec.toNat_setWidth]

/-- Exchanging the halfwords of a fullword rotates it by 16 places (R164). -/
theorem swapHalves_eq (w : Word) : swapHalves w = w.rotateLeft 16 := by
  apply BitVec.eq_of_getLsbD_eq
  intro i hi
  rw [swapHalves, BitVec.getLsbD_append, BitVec.getLsbD_rotateLeft]
  by_cases low : i < 16
  · simp [low, hi]
  · have : i - 16 < 16 := by omega
    simp [low, hi, this]

/-- What EXBR loads: bits 0:15 of x[R1] and the two low bytes of x[R2], exchanged (R165). -/
theorem withHalf_swapBytes (w v : Word) :
    withHalf true w (swapBytes (v.setWidth 16)) =
      w.extractLsb' 16 16 ++ v.extractLsb' 0 8 ++ v.extractLsb' 8 8 := by
  have low : ((v.setWidth 16 : Half).setWidth 8 : Byte) = v.extractLsb' 0 8 := by
    rw [BitVec.setWidth_setWidth_of_le _ (by decide), BitVec.setWidth_eq_extractLsb' (by decide)]
  have high : (v.setWidth 16 : Half).extractLsb' 8 8 = v.extractLsb' 8 8 :=
    BitVec.extractLsb'_setWidth_of_le (by decide)
  rw [withHalf, if_pos rfl, swapBytes, low, high, BitVec.append_assoc]
  rfl

/-- Settles O22: each load by `loadOf_value` and its operand. -/
theorem loadWithoutMemory : Obligations.LoadWithoutMemory := by
  intro s r1 r2 x2 n h w rx
  simp only [exec_lr, exec_li, exec_lhi, exec_lis, exec_lcs, exec_la, exec_lbr, exec_lhr, exec_exhr, exec_exbr]
  exact ⟨loadOf_value rfl, loadOf_value rfl, loadOf_value (immediateHalf_eq s x2 h),
    loadOf_value (shortOperand_eq n), loadOf_value (zero_sub_shortOperand n), loadOf_value rfl,
    loadOf_value (setWidth_lowByte _), loadOf_value rfl, loadOf_value (swapHalves_eq _),
    loadOf_value (withHalf_swapBytes _ _)⟩

end Sys2Proof.Machine

/-! # COPY

The halfwords of a block move one after another, from either end: where no place of the destination is one of
the source or comes twice, each is still what it was when its turn comes, and in the end the destination holds
the source (R175). -/

namespace Sys2Proof.Machine

/-! ## Places -/

/-- Where relocation answers, it is with the page moved and the byte field kept (R90). -/
theorem relocate_eq_ok {d : Word} {kind : Access} {va pa : Addr} (h : relocate d kind va = .ok pa) :
    pa = ((pageOf va).setWidth 12 + baseField d) ++ byteOf va := by
  unfold relocate at h
  split at h
  · cases h
  split at h
  · cases h
  split at h
  · cases h
  split at h
  · cases h
  · exact (Except.ok.inj h).symm

/-- Translation keeps the byte field (R90). -/
theorem translate_byteOf {kind : Access} {va pa : Addr} {s : State} (h : translate kind va s = .ok pa) :
    pa.toNat % 256 = va.toNat % 256 := by
  cases hp : s.psw.rp with
  | false =>
    rw [translate_unrelocated hp] at h
    cases h
    rfl
  | true =>
    rw [translate_relocated hp] at h
    rw [relocate_eq_ok h, absoluteAddr_eq, BitVec.toNat_ofNat]
    omega

/-- A halfword access goes to an even absolute address. -/
theorem evenBase_of_translate {kind : Access} {va pa : Addr} {s : State}
    (h : translate kind (evenAddr va) s = .ok pa) : evenBase pa = pa.toNat := by
  have kept := translate_byteOf h
  rw [evenAddr_toNat] at kept
  unfold evenBase at *
  omega

/-- Two halfword accesses at different places have no byte in common. -/
theorem evenBase_ne_of_ne {kind kind' : Access} {va vb pa pb : Addr} {s : State}
    (ha : translate kind (evenAddr va) s = .ok pa) (hb : translate kind' (evenAddr vb) s = .ok pb)
    (h : pa ≠ pb) : evenBase pa ≠ evenBase pb := by
  rw [evenBase_of_translate ha, evenBase_of_translate hb]
  exact fun e => h (BitVec.eq_of_toNat_eq e)

/-! ## Reads after a change of memory -/

section SetMem

variable {s : State} {a pa : Addr} {ea : Word} {h : Half} {m : Memory}

/-- What can be read at an absolute address depends on memory by the halfword there alone. -/
theorem absHalf_setMem (hm : m.half a = s.mem.half a) : (s.setMem m).absHalf a = s.absHalf a := by
  unfold State.absHalf
  rw [State.setMem_mem, hm]
  rfl

/-- Where a halfword can be read, one can be read whatever memory holds. -/
theorem absHalf_setMem_readable (e : s.absHalf a = some h) : ∃ v, (s.setMem m).absHalf a = some v := by
  by_cases hd : isDescriptor a = true
  · refine ⟨h, ?_⟩
    rw [← e]
    simp only [State.absHalf, hd]
    rfl
  by_cases ho : isMacOther a = true
  · refine ⟨h, ?_⟩
    rw [← e]
    simp only [State.absHalf, hd, ho]
    rfl
  by_cases hr : isMacReserved a = true
  · simp [State.absHalf, hd, ho, hr] at e
  have memory : isMemory a = true := by simp [isMemory, hd, ho, hr]
  rw [absHalf_memory memory] at e ⊢
  split at e
  · rename_i hp
    exact ⟨_, if_pos hp⟩
  · cases e

theorem dataHalf_setMem (ht : translate .read (evenAddr (programAddr ea)) s = .ok pa)
    (hm : m.half pa = s.mem.half pa) : (s.setMem m).dataHalf ea = s.dataHalf ea := by
  have ht' : translate .read (evenAddr (programAddr ea)) (s.setMem m) = .ok pa := ht
  simp only [State.dataHalf, State.halfAt, ht, ht', absHalf_setMem hm]

theorem dataHalf_setMem_readable (e : s.dataHalf ea = some h) : ∃ v, (s.setMem m).dataHalf ea = some v := by
  unfold State.dataHalf State.halfAt at e ⊢
  split at e
  · rename_i pa ht
    have ht' : translate .read (evenAddr (programAddr ea)) (s.setMem m) = .ok pa := ht
    rw [ht']
    exact absHalf_setMem_readable e
  · cases e

end SetMem

/-! ## Memory after halfwords have been stored -/

/-- Memory after the halfwords `h k` have been stored at the addresses `p k`, for each `k` of a list in turn. -/
def Memory.stored (p : Nat → Addr) (h : Nat → Half) (ks : List Nat) (m : Memory) : Memory :=
  ks.foldl (fun m k => m.setHalf (p k) (h k)) m

section Stored

variable {p : Nat → Addr} {h : Nat → Half} {ks : List Nat} {m : Memory}

theorem Memory.stored_cons (k : Nat) :
    Memory.stored p h (k :: ks) m = Memory.stored p h ks (m.setHalf (p k) (h k)) := rfl

theorem Memory.read_stored_outside {x : Nat} (hx : ∀ k ∈ ks, Outside x (p k)) :
    (Memory.stored p h ks m).read x = m.read x := by
  induction ks generalizing m with
  | nil => rfl
  | cons k ks ih =>
    rw [List.forall_mem_cons] at hx
    rw [Memory.stored_cons, ih hx.2, Memory.read_setHalf_outside hx.1]

theorem Memory.half_stored_other {a : Addr} (ha : ∀ k ∈ ks, evenBase a ≠ evenBase (p k)) :
    (Memory.stored p h ks m).half a = m.half a := by
  induction ks generalizing m with
  | nil => rfl
  | cons k ks ih =>
    rw [List.forall_mem_cons] at ha
    rw [Memory.stored_cons, ih ha.2, Memory.half_setHalf_other ha.1]

/-- Of halfwords stored at different places each is there afterwards, in whatever order they were stored. -/
theorem Memory.half_stored {k : Nat} (hw : m.wf = true) (hk : k ∈ ks)
    (apart : ∀ j ∈ ks, j ≠ k → evenBase (p k) ≠ evenBase (p j)) :
    (Memory.stored p h ks m).half (p k) = h k := by
  induction ks generalizing m with
  | nil => cases hk
  | cons i ks ih =>
    rw [List.forall_mem_cons] at apart
    rw [Memory.stored_cons]
    by_cases later : k ∈ ks
    · exact ih (Memory.wf_setHalf hw) later apart.2
    · obtain rfl : k = i := (List.mem_cons.1 hk).resolve_right later
      have others (j : Nat) (hj : j ∈ ks) : evenBase (p k) ≠ evenBase (p j) :=
        apart.2 j hj (fun e => later (e ▸ hj))
      rw [Memory.half_stored_other others, Memory.half_setHalf_same hw]

end Stored

/-! ## Blocks that can be copied -/

/-- `n` halfwords `h k` can be copied from the places `pa k` of the addresses `src k` to the places `pb k` of the
addresses `dst k`: they can be read and stored, no place is of the source and of the destination, and none
comes twice in the destination. -/
structure State.Copies (s : State) (n : Nat) (src dst : Nat → Word) (h : Nat → Half) (pa pb : Nat → Addr) :
    Prop where
  reads : ∀ k, k < n → s.dataHalf (src k) = some (h k) ∧
    translate .read (evenAddr (programAddr (src k))) s = .ok (pa k)
  stores : ∀ k, k < n → s.StoresTo (dst k) (pb k)
  apart : ∀ j k, j < n → k < n → pa j ≠ pb k
  distinct : ∀ j k, j < k → k < n → pb j ≠ pb k

section Copies

variable {s : State} {n : Nat} {src dst : Nat → Word} {h : Nat → Half} {pa pb : Nat → Addr}

theorem State.Copies.source_ne (c : s.Copies n src dst h pa pb) {j k : Nat} (hj : j < n) (hk : k < n) :
    evenBase (pa j) ≠ evenBase (pb k) :=
  evenBase_ne_of_ne (c.reads j hj).2 (c.stores k hk).1 (c.apart j k hj hk)

theorem State.Copies.injective (c : s.Copies n src dst h pa pb) {j k : Nat} (hj : j < n) (hk : k < n)
    (ne : j ≠ k) : pb j ≠ pb k := by
  rcases Nat.lt_or_gt_of_ne ne with lt | lt
  · exact c.distinct j k lt hk
  · exact (c.distinct k j lt hj).symm

theorem State.Copies.destination_ne (c : s.Copies n src dst h pa pb) {j k : Nat} (hj : j < n) (hk : k < n)
    (ne : j ≠ k) : evenBase (pb j) ≠ evenBase (pb k) :=
  evenBase_ne_of_ne (c.stores j hj).1 (c.stores k hk).1 (c.injective hj hk ne)

/-- The blocks can still be copied after one of the halfwords has been stored. -/
theorem State.Copies.setHalf (c : s.Copies n src dst h pa pb) {k : Nat} (hk : k < n) (v : Half) :
    (s.setMem (s.mem.setHalf (pb k) v)).Copies n src dst h pa pb where
  reads j hj := by
    obtain ⟨value, place⟩ := c.reads j hj
    exact ⟨(dataHalf_setMem place (Memory.half_setHalf_other (c.source_ne hj hk))).trans value, place⟩
  stores := c.stores
  apart := c.apart
  distinct := c.distinct

/-- Halfwords copied in any order (R175). -/
theorem State.Copies.copyEach_value {ks : List Nat} (c : s.Copies n src dst h pa pb)
    (hm : s.pend.mac = false) (hk : ∀ k ∈ ks, k < n) :
    copyEach false (ks.map fun k => (src k, dst k)) s = .ok () (s.setMem (s.mem.stored pb h ks)) := by
  induction ks generalizing s with
  | nil => rfl
  | cons k ks ih =>
    rw [List.forall_mem_cons] at hk
    have rest := ih (c.setHalf hk.1 (h k)) hm hk.2
    rw [List.map_cons, copyEach, readHalf_value hm (c.reads k hk.1).1, Res.bind_ok, if_neg Bool.false_ne_true,
      writeHalf_plain hm (c.stores k hk.1), Res.bind_ok, rest]
    rfl

/-- The places of addresses that all translate. -/
theorem absoluteOf_range {kind : Access} {f : Nat → Word} {p : Nat → Addr}
    (hp : ∀ k, k < n → translate kind (evenAddr (programAddr (f k))) s = .ok (p k)) :
    absoluteOf kind ((List.range n).map f) s = (List.range n).map p := by
  rw [absoluteOf, List.filterMap_map, ← List.filterMap_eq_map]
  refine List.filterMap_congr fun k hk => ?_
  rw [Function.comp_apply, hp k (List.mem_range.1 hk)]
  rfl

/-- The outcome of such a copy is not open. -/
theorem State.Copies.blocksShare_eq (c : s.Copies n src dst h pa pb) :
    blocksShare ((List.range n).map src) ((List.range n).map dst) s = false := by
  have distinct : ((List.range n).map pb).Nodup := by
    refine List.nodup_range.map_on fun j hj k hk e => ?_
    by_contra ne
    exact c.injective (List.mem_range.1 hj) (List.mem_range.1 hk) ne e
  have apart : ∀ a ∈ (List.range n).map pa, a ∉ (List.range n).map pb := by
    simp only [List.mem_map, List.mem_range]
    rintro _ ⟨j, hj, rfl⟩ ⟨k, hk, e⟩
    exact c.apart j k hj hk e.symm
  rw [blocksShare, absoluteOf_range fun k hk => (c.reads k hk).2, absoluteOf_range fun k hk => (c.stores k hk).1,
    Bool.or_eq_false_iff, List.any_eq_false]
  simpa [distinct] using apart

/-- A block copied from either end, the extra halfword read first or last (R175). -/
theorem State.Copies.copyBlock_value (c : s.Copies n src dst h pa pb) (hm : s.pend.mac = false)
    {before : Word} {v : Half} (hb : s.dataHalf before = some v) (down : Bool) :
    ∃ ks, (∀ k, k ∈ ks ↔ k < n) ∧
      copyBlock down true ((List.range n).map src) ((List.range n).map dst) before s =
        .ok () (s.setMem (s.mem.stored pb h ks)) := by
  cases down with
  | true =>
    have within (k : Nat) : k ∈ (List.range n).reverse ↔ k < n := by simp
    obtain ⟨w, last⟩ := dataHalf_setMem_readable (m := s.mem.stored pb h (List.range n).reverse) hb
    refine ⟨(List.range n).reverse, within, ?_⟩
    rw [copyBlock, if_pos rfl, c.blocksShare_eq, List.zip_map', ← List.map_reverse,
      c.copyEach_value hm fun k => (within k).1, Res.bind_ok, if_pos rfl, readHalf_value (by exact hm) last,
      Res.bind_ok]
  | false =>
    refine ⟨List.range n, fun k => List.mem_range, ?_⟩
    rw [copyBlock, if_neg Bool.false_ne_true, readHalf_value hm hb, Res.bind_ok, c.blocksShare_eq,
      List.zip_map', c.copyEach_value hm fun k => List.mem_range.1]

/-- In memory such a copy has stored all `n` halfwords, and no other. -/
theorem State.Copies.memory (c : s.Copies n src dst h pa pb) (hw : s.mem.wf = true) {ks : List Nat}
    (hk : ∀ k, k ∈ ks ↔ k < n) :
    (∀ k, k < n → (s.mem.stored pb h ks).half (pb k) = h k) ∧
      ∀ x, (∀ k, k < n → Outside x (pb k)) → (s.mem.stored pb h ks).read x = s.mem.read x := by
  refine ⟨fun k lt => ?_, fun x out => Memory.read_stored_outside fun k hx => out k ((hk k).1 hx)⟩
  exact Memory.half_stored hw ((hk k).2 lt) fun j hj ne => c.destination_ne lt ((hk j).1 hj) (Ne.symm ne)

/-- Blocks with a halfword in common cannot be copied so. -/
theorem State.Copies.evenAddr_ne (c : s.Copies n src dst h pa pb) {j k : Nat} (hj : j < n) (hk : k < n) :
    evenAddr (programAddr (src j)) ≠ evenAddr (programAddr (dst k)) := by
  intro e
  have read := translate_read_of_write (c.stores k hk).1
  rw [← e, (c.reads j hj).2] at read
  exact c.apart j k hj hk (Except.ok.inj read)

end Copies

/-! ## The instruction -/

/-- The address of halfword `k` of the `n` of a block whose last is at `last`. -/
def blockAddr (last : Word) (n k : Nat) : Word := last - BitVec.ofNat 32 (2 * (n - 1 - k))

theorem blockAddrs_eq (last : Word) (n : Nat) : blockAddrs last n = (List.range n).map (blockAddr last n) := rfl

theorem blockAddr_before (last : Word) {n : Nat} (hn : 0 < n) :
    blockAddr last n 0 - 2#32 = last - BitVec.ofNat 32 (2 * n) := by
  obtain ⟨m, rfl⟩ : ∃ m, n = m + 1 := ⟨n - 1, by omega⟩
  rw [blockAddr, BitVec.sub_sub, Nat.mul_succ, BitVec.ofNat_add]
  rfl

/-- The count of halfwords in x[R2] (R175). -/
theorem copyCount_eq {w : Word} {n : Nat} (h : w.toNat = 16 * (n - 1)) (hn : 0 < n) : copyCount w = n := by
  rw [copyCount, BitVec.toNat_ushiftRight, Nat.shiftRight_eq_div_pow, h]
  omega

theorem lowBits_eq_zero_iff (w : Word) : w.setWidth 4 = 0#4 ↔ w.toNat % 16 = 0 := by
  rw [← BitVec.toNat_inj, BitVec.toNat_setWidth]
  rfl

theorem sinceS15_value {meaning : State → Out} {s : State} (h : s.params.microcode ≠ .belowS15) :
    sinceS15 meaning s = meaning s := by
  simp [sinceS15, State.levelS15, h]

theorem transfer_refused {body : State → Res Unit} {s : State} {f : Refusal} (h : body s.begin = .refused f) :
    transfer body s = .refused f := by
  rw [transfer, h]
  rfl

theorem State.Wrote.freeReg {ds : List Reg} {s t : State} (h : s.Wrote ds t) {r : Reg} (hr : r ∈ ds) :
    s.Wrote ds (t.freeReg r) :=
  h.tick.setReg hr _

/-- What COPY leaves open (R175). -/
theorem State.Wrote.afterCopy (s : State) (r1 r2 : Reg) :
    s.Wrote [r1, r1 + 1#4, r2] (s.afterCopy r1 r2) := by
  have addresses := ((State.Wrote.refl [r1, r1 + 1#4, r2] s).freeReg (r := r1) (by simp)).freeReg
    (r := nextReg r1) (by simp [nextReg])
  exact (addresses.freeReg (r := r2) (by simp)).tick.setFlags _

/-- Memory apart, nothing has changed but the registers COPY names and the condition code. -/
theorem afterCopy_onlyRegs (s : State) (m : Memory) (r1 r2 : Reg) (a : Addr) :
    s.OnlyRegs { ((s.begin.tick.setMem m).afterCopy r1 r2).setPc a with mem := s.mem } [r1, r1 + 1#4, r2] :=
  ⟨rfl, (State.Wrote.afterCopy (s.begin.tick.setMem m) r1 r2).2⟩

section Copy

variable {s : State} {r1 r2 : Reg} {n : Nat}

theorem execCopy_lowBits (hl : s.params.microcode ≠ .belowS15) (h : (s.reg r2).toNat % 16 ≠ 0) :
    execCopy r1 r2 s = .refused .copyLowBits := by
  rw [execCopy, sinceS15_value hl]
  exact transfer_refused (if_pos fun e => h ((lowBits_eq_zero_iff _).1 e))

variable (hr : (s.reg r2).toNat = 16 * (n - 1)) (hn : 0 < n)

include hr hn

/-- COPY to its end, by what the copy of its block leaves. -/
theorem copyWhole_value {u : State}
    (h : copyBlock s.begin.freeBit true (blockAddrs (s.reg r1) n) (blockAddrs (s.reg (nextReg r1)) n)
      (s.reg r1 - BitVec.ofNat 32 (2 * n)) s.begin.tick = .ok () u) :
    copyWhole r1 r2 s.begin = .ok () ((u.afterCopy r1 r2).setPc (nextAddr s.pc 2)) := by
  have count : copyCount (s.begin.reg r2) = n := copyCount_eq hr hn
  rw [copyWhole, count]
  exact Res.bind_eq_ok.2 ⟨(), u, h, rfl⟩

variable (hl : s.params.microcode ≠ .belowS15)

include hl

theorem execCopy_overlap (h : rangesOverlap (s.reg r1) (s.reg (nextReg r1)) n = true) :
    execCopy r1 r2 s = .refused .copyOverlap := by
  have low : (s.reg r2).setWidth 4 = 0#4 := (lowBits_eq_zero_iff _).2 (by omega)
  rw [← copyCount_eq hr hn] at h
  rw [execCopy, sinceS15_value hl]
  exact transfer_refused ((if_neg (not_not_intro low)).trans (if_pos h))

/-- COPY that nothing interrupts copies the whole block. -/
theorem execCopy_whole {u : State} (h : rangesOverlap (s.reg r1) (s.reg (nextReg r1)) n = false)
    (hb : s.copyBreak = none) (hc : copyWhole r1 r2 s.begin = .ok () u) (hu : u.pend.mac = false) :
    execCopy r1 r2 s = .next u := by
  have low : (s.reg r2).setWidth 4 = 0#4 := (lowBits_eq_zero_iff _).2 (by omega)
  rw [← copyCount_eq hr hn] at h
  rw [execCopy, sinceS15_value hl]
  refine transfer_ok (((if_neg (not_not_intro low)).trans (if_neg (Bool.eq_false_iff.1 h))).trans ?_) hu
  rw [State.begin_copyBreak, hb]
  exact hc

end Copy

/-- Settles O27: from either end, by `State.Copies.copyBlock_value`. -/
theorem copyMoves : Obligations.CopyMoves := by
  intro s r1 r2 n before h pa pb src dst hl
  rw [exec_copy]
  refine ⟨execCopy_lowBits hl, fun hr hn meet => ?overlap,
    fun hw hb hr hn hx reads stores apart distinct => ?moves⟩
  case overlap => exact execCopy_overlap hr hn hl ((rangesOverlap_iff hn).2 meet)
  case moves =>
    have c : s.begin.tick.Copies n src dst h pa pb := ⟨reads, stores, apart, distinct⟩
    have disjoint : rangesOverlap (s.reg r1) (s.reg (nextReg r1)) n = false := by
      rw [Bool.eq_false_iff, ne_eq, rangesOverlap_iff hn]
      rintro ⟨j, k, hj, hk, e⟩
      exact c.evenAddr_ne hj hk e
    have extra : s.begin.tick.dataHalf (s.reg r1 - BitVec.ofNat 32 (2 * n)) = some before := by
      rw [← blockAddr_before _ hn]
      exact hx
    obtain ⟨ks, hk, block⟩ := c.copyBlock_value rfl extra s.begin.freeBit
    obtain ⟨moved, kept⟩ := c.memory hw hk
    exact ⟨_, execCopy_whole hr hn hl disjoint hb (copyWhole_value hr hn block) rfl, moved, kept, rfl,
      afterCopy_onlyRegs s _ r1 r2 _⟩

end Sys2Proof.Machine

/-! # Logical and test instructions

Each by its operand, where it can be read (R200 to R218). -/

namespace Sys2Proof.Machine

/-! ## Operands without a fault -/

section Operands

variable {s : State} {rx : RxAddr}

theorem operandFull_value {w : Word} (h : s.dataFull (s.effAddr rx) = some w) :
    operandFull rx s.begin = .ok w s.begin :=
  readFull_value rfl h

theorem operandHalf_value {h : Half} (e : s.dataHalf (s.effAddr rx) = some h) :
    operandHalf rx s.begin = .ok (h.signExtend 32) s.begin :=
  Res.bind_eq_ok.2 ⟨h, s.begin, readHalf_value rfl e, rfl⟩

end Operands

/-! ## The two shapes -/

section Shapes

variable {s : State} {r1 : Reg} {len : Nat} {operand : State → Res Word} {v : Word}
  (h : operand s.begin = .ok v s.begin)

include h

/-- A logical instruction loads x[R1] combined with its operand (R200). -/
theorem logical_value (f : Word → Word → Word) :
    logical f len operand r1 s = .next (s.loaded r1 (f (s.reg r1) v) len) := by
  refine sequential_ok (u := (s.begin.setReg r1 (f (s.reg r1) v)).tick.setFlags _) ?_ rfl
  rw [h, Res.bind_ok, loadTo, State.writeReg_untainted _ _ _ rfl, State.loadFlags_untainted _ _ (by rfl),
    signFlags_eq]
  rfl

/-- A test instruction sets the condition code alone (R217, R218). -/
theorem test_value :
    test len operand r1 s = .next (s.tick.compared s.freeBit (s.reg r1 &&& v).toInt len) := by
  refine sequential_ok (u := s.begin.tick.setFlags (ccOf s.freeBit (s.reg r1 &&& v).toInt)) ?_ rfl
  rw [h, Res.bind_ok, State.loadFlags_untainted _ _ rfl, signFlags_eq]
  rfl

end Shapes

/-- Settles O28: each instruction by its shape and its operand. -/
theorem logicalInstructions : Obligations.Logical := by
  intro s r1 r2 x2 rx i16 i32 w h
  simp only [exec_nr, exec_or, exec_xr, exec_ni, exec_oi, exec_xi, exec_nhi, exec_ohi, exec_xhi, exec_n, exec_o,
    exec_x, exec_nh, exec_oh, exec_xh, exec_ti, exec_thi]
  refine ⟨⟨logical_value rfl _, logical_value rfl _, logical_value rfl _⟩,
    ⟨logical_value rfl _, logical_value rfl _, logical_value rfl _⟩,
    ⟨logical_value rfl _, logical_value rfl _, logical_value rfl _⟩, fun hw => ?full, fun hh => ?half,
    test_value rfl, test_value rfl⟩
  case full =>
    have read := operandFull_value hw
    exact ⟨logical_value read _, logical_value read _, logical_value read _⟩
  case half =>
    have read := operandHalf_value hh
    exact ⟨logical_value read _, logical_value read _, logical_value read _⟩

end Sys2Proof.Machine

/-! # Shifts and rotates

A shift is made one place at a time (R220); its closed form says what `n` places make and which bit the place
after them shifts out. -/

namespace Sys2Proof.Machine

/-! ## Closed forms -/

/-- A place of a shift has a closed form: `result n` is the value after `n` places, `out n` the bit that the
place after those shifts out. -/
structure ShiftsAs {w : Nat} (one : BitVec w → Bool × BitVec w) (out : Nat → BitVec w → Bool)
    (result : Nat → BitVec w → BitVec w) : Prop where
  result_zero : ∀ v, result 0 v = v
  one_eq : ∀ v, one v = (out 0 v, result 1 v)
  out_succ : ∀ n v, out n (result 1 v) = out (n + 1) v
  result_succ : ∀ n v, result n (result 1 v) = result (n + 1) v

/-- The last bit shifted out by `n` places: none if nothing was shifted (R220 (c)). -/
def lastOut (n : Nat) (b : Bool) : Option Bool := if n = 0 then none else some b

/-- A shift of at least one place forgets what was shifted out before it. -/
theorem shiftTimes_succ {w : Nat} {one : BitVec w → Bool × BitVec w} {out : Nat → BitVec w → Bool}
    {result : Nat → BitVec w → BitVec w} (h : ShiftsAs one out result) (n : Nat) (last : Option Bool)
    (v : BitVec w) : shiftTimes one (n + 1) last v = (some (out n v), result (n + 1) v) := by
  induction n generalizing last v with
  | zero => rw [shiftTimes, h.one_eq, shiftTimes]
  | succ n ih => rw [shiftTimes, ih, h.one_eq, h.out_succ, h.result_succ]

theorem shiftTimes_eq {w : Nat} {one : BitVec w → Bool × BitVec w} {out : Nat → BitVec w → Bool}
    {result : Nat → BitVec w → BitVec w} (h : ShiftsAs one out result) (n : Nat) (v : BitVec w) :
    shiftTimes one n none v = (lastOut n (out (n - 1) v), result n v) := by
  cases n with
  | zero => rw [shiftTimes, h.result_zero, lastOut, if_pos rfl]
  | succ n => rw [shiftTimes_succ h, lastOut, if_neg n.succ_ne_zero, Nat.add_sub_cancel]

/-- Left: the bits from the left go out (R221, R225). -/
theorem leftOne_shiftsAs (w : Nat) :
    ShiftsAs (w := w) leftOne (fun n v => v.getMsbD n) (fun n v => v <<< n) where
  result_zero v := BitVec.shiftLeft_zero v
  one_eq _ := rfl
  out_succ n v := BitVec.getMsbD_shiftLeft v 1
  result_succ n v := by rw [Nat.add_comm, BitVec.shiftLeft_add]

/-- Logical right: the bits from the right go out (R223, R227). -/
theorem rightOne_shiftsAs (w : Nat) :
    ShiftsAs (w := w) rightOne (fun n v => v.getLsbD n) (fun n v => v >>> n) where
  result_zero v := BitVec.ushiftRight_zero v
  one_eq _ := rfl
  out_succ n v := by rw [BitVec.getLsbD_ushiftRight, Nat.add_comm]
  result_succ n v := by rw [Nat.add_comm, BitVec.shiftRight_add]

/-- Arithmetic right: the bits from the right go out, then copies of the sign (R319). -/
theorem arithmeticOne_shiftsAs :
    ShiftsAs (w := 32) arithmeticOne (fun n v => (v.sshiftRight n).getLsbD 0) (fun n v => v.sshiftRight n) where
  result_zero v := BitVec.sshiftRight_zero
  one_eq v := by rw [BitVec.sshiftRight_zero, arithmeticOne]
  out_succ n v := by rw [← BitVec.sshiftRight_add, Nat.add_comm]
  result_succ n v := by rw [← BitVec.sshiftRight_add, Nat.add_comm]

/-- The bit that an arithmetic shift of `n` places shifts out last. -/
theorem arithmetic_out (v : Word) (n : Nat) :
    (v.sshiftRight (n - 1)).getLsbD 0 = if n ≤ 32 then v.getLsbD (n - 1) else v.msb := by
  have width : n - 1 < 32 ↔ n ≤ 32 := by omega
  simp only [BitVec.getLsbD_sshiftRight, Nat.add_zero, width]
  rfl

/-- Left around: bit 0 goes out and comes in again on the right (R229). -/
theorem rotateLeftOne_shiftsAs :
    ShiftsAs (w := 32) rotateLeftOne (fun n v => (v.rotateLeft n).msb) (fun n v => v.rotateLeft n) := by
  have add (n : Nat) (v : Word) : (v.rotateLeft 1).rotateLeft n = v.rotateLeft (n + 1) := by
    apply BitVec.eq_of_getMsbD_eq
    intro i hi
    have place : (1 + (n + i) % 32) % 32 = (n + 1 + i) % 32 := by omega
    have inside : (n + i) % 32 < 32 := Nat.mod_lt _ (by decide)
    simp only [BitVec.getMsbD_rotateLeft, hi, inside, place, decide_true, Bool.true_and]
  have zero (v : Word) : v.rotateLeft 0 = v := by
    apply BitVec.eq_of_getMsbD_eq
    intro i hi
    simp only [BitVec.getMsbD_rotateLeft, hi, Nat.zero_add, Nat.mod_eq_of_lt, decide_true, Bool.true_and]
  exact ⟨zero, fun v => by rw [zero, rotateLeftOne], fun n v => by rw [add], add⟩

/-- The bits of a rotation to the right, counted from the right. -/
theorem getLsbD_rotateRight_word (v : Word) (n : Nat) {i : Nat} (hi : i < 32) :
    (v.rotateRight n).getLsbD i = v.getLsbD ((n + i) % 32) := by
  rw [BitVec.getLsbD_rotateRight]
  by_cases low : i < 32 - n % 32
  · have place : (n + i) % 32 = n % 32 + i := by omega
    simp [low, place]
  · have place : (n + i) % 32 = i - (32 - n % 32) := by omega
    simp [low, hi, place]

/-- Right around: bit 31 goes out and comes in again on the left (R230). -/
theorem rotateRightOne_shiftsAs :
    ShiftsAs (w := 32) rotateRightOne (fun n v => (v.rotateRight n).getLsbD 0) (fun n v => v.rotateRight n) := by
  have add (n : Nat) (v : Word) : (v.rotateRight 1).rotateRight n = v.rotateRight (n + 1) := by
    apply BitVec.eq_of_getLsbD_eq
    intro i hi
    have place : (1 + (n + i) % 32) % 32 = (n + 1 + i) % 32 := by omega
    rw [getLsbD_rotateRight_word _ _ hi, getLsbD_rotateRight_word _ _ (Nat.mod_lt _ (by decide)),
      getLsbD_rotateRight_word _ _ hi, place]
  have zero (v : Word) : v.rotateRight 0 = v := by
    apply BitVec.eq_of_getLsbD_eq
    intro i hi
    rw [getLsbD_rotateRight_word _ _ hi, Nat.zero_add, Nat.mod_eq_of_lt hi]
  exact ⟨zero, fun v => by rw [zero, rotateRightOne], fun n v => by rw [add], add⟩

/-! ## The condition code of a shift -/

section Flags

variable {t : State} (ht : t.pend.mac = false) (n : Nat) (b : Bool)

include ht

/-- C is the last bit shifted out, or free, G and L are the sign of what is tested (R220 (c), (d)). -/
theorem shiftFlags_value {w : Nat} (tested : BitVec w) :
    t.shiftFlags (lastOut n b) tested =
      if n = 0 then t.tick.setFlags (ccOf t.freeBit tested.toInt) else t.setFlags (ccOf b tested.toInt) := by
  unfold lastOut
  split
  · rw [State.shiftFlags, State.writeFlags_untainted _ _ (by exact ht), signFlags_eq]
  · rw [State.shiftFlags, State.writeFlags_untainted _ _ ht, signFlags_eq]

/-- The same, `HALFSHIFT_CC_WIDTH` saying what is tested (R220 (d), D10). -/
theorem halfShiftFlags_value (h : Half) (w : Word) :
    t.halfShiftFlags (lastOut n b) h w =
      if n = 0 then t.tick.setFlags (ccOf t.freeBit (t.halfTested h w))
      else t.setFlags (ccOf b (t.halfTested h w)) := by
  cases width : t.params.halfShift with
  | width16 =>
    simp only [State.halfShiftFlags, State.halfTested, width]
    exact shiftFlags_value ht n b h
  | width32 =>
    simp only [State.halfShiftFlags, State.halfTested, width]
    exact shiftFlags_value ht n b w

end Flags

/-! ## The three shapes -/

/-- The count of an RX shift is the effective address modulo 128 (R220 (a)). -/
theorem shiftCount_begin (s : State) (rx : RxAddr) : s.begin.shiftCount rx = (s.effAddr rx).toNat % 128 :=
  BitVec.toNat_setWidth 7 _

/-- The end of a shift: the register first, then the flags. -/
theorem sequential_shifted {s : State} {r1 : Reg} {len n : Nat} {body : State → Res Unit} {v : Word} {b : Bool}
    {z : Int}
    (h : body s.begin = .ok () (if n = 0 then (s.begin.setReg r1 v).tick.setFlags (ccOf s.freeBit z)
      else (s.begin.setReg r1 v).setFlags (ccOf b z))) :
    sequential len body s = .next (s.shifted r1 n v b z len) :=
  sequential_ok h (by split <;> rfl)

theorem shiftFull_value {one : Word → Bool × Word} {out : Nat → Word → Bool} {result : Nat → Word → Word}
    (h : ShiftsAs one out result) (len : Nat) (count : State → Nat) (r1 : Reg) (s : State) :
    shiftFull one len count r1 s =
      .next (s.shifted r1 (count s.begin) (result (count s.begin) (s.reg r1))
        (out (count s.begin - 1) (s.reg r1)) (result (count s.begin) (s.reg r1)).toInt len) := by
  refine sequential_shifted (congrArg (Res.ok ()) ?_)
  rw [shiftTimes_eq h, State.writeReg_untainted _ _ _ rfl]
  exact shiftFlags_value (by rfl) _ _ _

theorem shiftHalf_value {one : Half → Bool × Half} {out : Nat → Half → Bool} {result : Nat → Half → Half}
    (h : ShiftsAs one out result) (len : Nat) (count : State → Nat) (r1 : Reg) (s : State) :
    shiftHalf one len count r1 s =
      .next (s.shifted r1 (count s.begin)
        ((s.reg r1).extractLsb' 16 16 ++ result (count s.begin) (s.regHalf r1))
        (out (count s.begin - 1) (s.regHalf r1))
        (s.halfTested (result (count s.begin) (s.regHalf r1))
          ((s.reg r1).extractLsb' 16 16 ++ result (count s.begin) (s.regHalf r1))) len) := by
  refine sequential_shifted (congrArg (Res.ok ()) ?_)
  rw [shiftTimes_eq h, State.writeReg_untainted _ _ _ rfl]
  exact halfShiftFlags_value (by rfl) _ _ _ _

/-- A rotate ends as a load of its result does: its carry is free (R220 (c)). -/
theorem rotate_value {one : Word → Bool × Word} {out : Nat → Word → Bool} {result : Nat → Word → Word}
    (h : ShiftsAs one out result) (len : Nat) (count : State → Nat) (r1 : Reg) (s : State) :
    rotate one len count r1 s = .next (s.loaded r1 (result (count s.begin) (s.reg r1)) len) := by
  refine sequential_ok (u := (s.begin.setReg r1 (result (count s.begin) (s.reg r1))).tick.setFlags _)
    (congrArg (Res.ok ()) ?_) rfl
  rw [shiftTimes_eq h, State.writeReg_untainted _ _ _ rfl, State.loadFlags_untainted _ _ (by rfl), signFlags_eq]
  rfl

/-- Settles O30: each instruction by its shape and the closed form of its place. -/
theorem shiftFullword : Obligations.ShiftFullword := by
  intro s r1 rx n x c arith
  refine ⟨?sll, ?slls, ?srl, ?srls, ?sra, ?rll, ?rrl⟩
  case sll => rw [exec_sll, execSll, shiftFull_value (leftOne_shiftsAs 32), shiftCount_begin]
  case slls => rw [exec_slls, execSlls, shiftFull_value (leftOne_shiftsAs 32)]
  case srl => rw [exec_srl, execSrl, shiftFull_value (rightOne_shiftsAs 32), shiftCount_begin]
  case srls => rw [exec_srls, execSrls, shiftFull_value (rightOne_shiftsAs 32)]
  case sra =>
    rw [exec_sra, execSra, shiftFull_value arithmeticOne_shiftsAs, shiftCount_begin, arithmetic_out]
  case rll => rw [exec_rll, execRll, rotate_value rotateLeftOne_shiftsAs, shiftCount_begin]
  case rrl => rw [exec_rrl, execRrl, rotate_value rotateRightOne_shiftsAs, shiftCount_begin]

/-- Settles O31: each instruction by its shape and the closed form of its place. -/
theorem shiftHalfword : Obligations.ShiftHalfword := by
  intro s r1 rx n upper h c
  refine ⟨?slhl, ?slhls, ?srhl, ?srhls⟩
  case slhl => rw [exec_slhl, execSlhl, shiftHalf_value (leftOne_shiftsAs 16), shiftCount_begin, State.regHalf]
  case slhls => rw [exec_slhls, execSlhls, shiftHalf_value (leftOne_shiftsAs 16), State.regHalf]
  case srhl => rw [exec_srhl, execSrhl, shiftHalf_value (rightOne_shiftsAs 16), shiftCount_begin, State.regHalf]
  case srhls => rw [exec_srhls, execSrhls, shiftHalf_value (rightOne_shiftsAs 16), State.regHalf]

end Sys2Proof.Machine

/-! # TS and the bit instructions

A halfword is read, tested, and for all but TBT stored again (R240, R245 to R249). -/

namespace Sys2Proof.Machine

/-! ## A store draws no free value -/

theorem State.storedAbs_freeBit {pa : Addr} {v : Half} {s t : State} (e : s.storedAbs pa v = some t) :
    t.freeBit = s.freeBit := by
  rcases absWriteHalf_ok (absWriteHalf_iff.2 e) with rfl | rfl <;> rfl

theorem State.storedHalf_freeBit {ea : Word} {v : Half} {s t : State} (e : s.storedHalf ea v = some t) :
    t.freeBit = s.freeBit := by
  obtain ⟨pa, -, stored⟩ := State.storedAt_place e
  exact State.storedAbs_freeBit stored

/-! ## TS -/

/-- The read and the write of TS, where the halfword can be read and stored (R240). -/
theorem testAndSetAt_value {va pa : Addr} {h : Half} {s t : State} (hm : s.pend.mac = false)
    (ht : translate .write va s = .ok pa) (hr : s.absHalf pa = some h)
    (hs : s.storedAbs pa 0xFFFF#16 = some t) : testAndSetAt va s = .ok h t := by
  rw [testAndSetAt, ht]
  dsimp only
  rw [absReadHalf_of_absHalf hr, Res.bind_ok, absWriteHalf_iff.2 hs, Res.bind_ok,
    deliver_untainted (by rw [State.storedAbs_pend hs, hm])]

/-- Settles O32: by the read and the write of TS. -/
theorem testAndSet : Obligations.TestAndSet := by
  intro s t r1 rx pa h ht hr hs
  have clear : t.pend.mac = false := by
    rw [State.storedAbs_pend hs]
    rfl
  have free : t.freeBit = s.freeBit := (State.storedAbs_freeBit hs :)
  rw [exec_ts, execTs]
  refine sequential_ok (u := t.tick.setFlags (ccOf s.freeBit h.toInt)) ?_ clear
  refine Res.bind_eq_ok.2 ⟨h, t, testAndSetAt_value (s := s.begin) rfl ht hr hs, ?_⟩
  rw [State.loadFlags_untainted _ _ clear, signFlags_eq, free, BitVec.toInt_signExtend_of_le (by decide)]

/-! ## The bit and its mask -/

theorem bitMask_eq (d : Word) : bitMask d = 0x8000#16 >>> (d.toNat % 16) := by
  rw [bitMask, BitVec.toNat_setWidth]

/-- The mask of bit `k` from the left is a power of two. -/
theorem mask_eq_twoPow {k : Nat} (hk : k < 16) : 0x8000#16 >>> k = BitVec.twoPow 16 (15 - k) := by
  revert k
  decide

/-- The mask tells the bit: bit `d` modulo 16 from the left (R245, D40). -/
theorem and_bitMask_ne_zero (h : Half) (d : Word) :
    (h &&& bitMask d != 0#16) = h.getMsbD (d.toNat % 16) := by
  have inside : d.toNat % 16 < 16 := Nat.mod_lt _ (by decide)
  have bit : h.getMsbD (d.toNat % 16) = h.getLsbD (15 - d.toNat % 16) := by
    rw [BitVec.getMsbD_eq_getLsbD, decide_eq_true inside, Bool.true_and]
  have power : BitVec.twoPow 16 (15 - d.toNat % 16) ≠ 0#16 := by
    rw [ne_eq, ← BitVec.toNat_inj, BitVec.toNat_twoPow_of_lt (by omega)]
    exact (Nat.two_pow_pos _).ne'
  rw [bitMask_eq, mask_eq_twoPow inside, BitVec.and_twoPow, bit]
  cases h.getLsbD (15 - d.toNat % 16) <;> simp [power]

/-! ## The instructions -/

section Bits

variable {s t : State} {r1 : Reg} {rx : RxAddr} {h : Half}

/-- G says what the bit was (R245). -/
theorem bitResult_value (ht : t.pend.mac = false) (v : Half) (d : Word) :
    t.bitResult v d =
      t.tick.setFlags { c := t.freeBit, v := false, g := v.getMsbD (d.toNat % 16), l := false } := by
  rw [State.bitResult, State.writeFlags_untainted _ _ (by exact ht), and_bitMask_ne_zero, bitFlags]

variable (hr : s.dataHalf (bitAddr (s.effAddr rx) (s.reg r1)) = some h)

include hr

theorem execTbt_value :
    execTbt r1 rx s = .next ((s.begin.bitResult h (s.reg r1)).setPc (nextAddr s.pc rx.length)) := by
  refine sequential_ok (u := s.begin.bitResult h (s.reg r1)) ?_ (by rw [bitResult_value rfl]; rfl)
  exact Res.bind_eq_ok.2 ⟨h, s.begin, readHalf_value rfl hr, rfl⟩

/-- An instruction that changes the bit stores its halfword again (R247 to R249). -/
theorem changeBit_value {f : Half → Half → Half}
    (hs : s.begin.storedHalf (bitAddr (s.effAddr rx) (s.reg r1)) (f h (bitMask (s.reg r1))) = some t) :
    changeBit f r1 rx s = .next ((t.bitResult h (s.reg r1)).setPc (nextAddr s.pc rx.length)) := by
  have clear : t.pend.mac = false := congrArg Pending.mac (State.storedAt_pend hs)
  refine sequential_ok (u := t.bitResult h (s.reg r1)) ?_ (by rw [bitResult_value clear]; exact clear)
  refine Res.bind_eq_ok.2 ⟨h, s.begin, readHalf_value rfl hr, ?_⟩
  exact Res.bind_eq_ok.2 ⟨(), t, writeHalf_value rfl hs, rfl⟩

end Bits

/-- Settles O33: the halfword read and stored at `bitAddr`, and its bit. -/
theorem bitInstructions : Obligations.BitInstructions := by
  intro s t r1 rx h d place mask cc hr
  have address : bitAddr (s.effAddr rx) (s.reg r1) = place := bitAddr_eq _ _
  have masked : bitMask (s.reg r1) = mask := bitMask_eq _
  rw [← address] at hr ⊢
  rw [← masked]
  have changes {f : Half → Half → Half}
      (hs : s.begin.storedHalf (bitAddr (s.effAddr rx) (s.reg r1)) (f h (bitMask (s.reg r1))) = some t) :
      changeBit f r1 rx s = .next ((t.tick.setFlags cc).setPc (nextAddr s.pc rx.length)) := by
    rw [changeBit_value hr hs, bitResult_value (congrArg Pending.mac (State.storedAt_pend hs)),
      State.storedHalf_freeBit hs]
    rfl
  simp only [exec_tbt, exec_sbt, exec_rbt, exec_cbt]
  refine ⟨?_, fun hs => changes hs, fun hs => changes (f := fun h k => h &&& ~~~k) hs, fun hs => changes hs⟩
  rw [execTbt_value hr, bitResult_value rfl]
  rfl

end Sys2Proof.Machine

/-! # ARAND

The search runs from the last halfwords of the two arrays to the first and ends at the first pair with a common
bit, so at the highest (R216). -/

namespace Sys2Proof.Machine

/-! ## The leftmost bit -/

/-- From a place on, the number of the first bit that is set. -/
theorem leftmostOneFrom_eq {w : Nat} {v : BitVec w} {left from_ k : Nat} (hb : v.getMsbD k = true)
    (lo : from_ ≤ k) (hi : k < from_ + left) (clear : ∀ i, i < k → v.getMsbD i = false) :
    leftmostOneFrom v left from_ = k := by
  induction left generalizing from_ with
  | zero => omega
  | succ left ih =>
    rw [leftmostOneFrom]
    rcases Nat.eq_or_lt_of_le lo with rfl | lt
    · rw [if_pos hb]
    · rw [clear from_ lt, if_neg Bool.false_ne_true]
      exact ih lt (by omega)

theorem leftmostOne_eq {w : Nat} {v : BitVec w} {k : Nat} (hk : k < w) (hb : v.getMsbD k = true)
    (clear : ∀ i, i < k → v.getMsbD i = false) : leftmostOne v = k :=
  leftmostOneFrom_eq hb k.zero_le (by omega) clear

/-- A halfword with a bit set is not zero. -/
theorem ne_zero_of_getMsbD {v : Half} {k : Nat} (hb : v.getMsbD k = true) : v ≠ 0#16 := by
  rintro rfl
  simp at hb

/-! ## The search -/

theorem blockAddr_last (last : Word) (n : Nat) : blockAddr last (n + 1) n = last := by
  simp [blockAddr]

/-- The halfwords before the last are a block of their own. -/
theorem blockAddr_init (last : Word) {n j : Nat} (hj : j < n) :
    blockAddr (last - 2#32) n j = blockAddr last (n + 1) j := by
  have distance : 2 * (n + 1 - 1 - j) = 2 + 2 * (n - 1 - j) := by omega
  rw [blockAddr, blockAddr, BitVec.sub_sub, distance, BitVec.ofNat_add]

/-- Two bit arrays of `n` halfwords, `a 0` and `b 0` the first ones, whose last halfwords are at `p` and at `q`,
can be read. -/
def State.HoldsArrays (s : State) (n : Nat) (p q : Word) (a b : Nat → Half) : Prop :=
  ∀ j, j < n → s.dataHalf (blockAddr p n j) = some (a j) ∧ s.dataHalf (blockAddr q n j) = some (b j)

section Search

variable {s : State} {n : Nat} {p q : Word} {a b : Nat → Half}

theorem State.HoldsArrays.init (h : s.HoldsArrays (n + 1) p q a b) :
    s.HoldsArrays n (p - 2#32) (q - 2#32) a b := by
  intro j hj
  rw [blockAddr_init _ hj, blockAddr_init _ hj]
  exact h j (by omega)

variable (hm : s.pend.mac = false)

include hm

/-- The search looks at the last halfwords, then at those before them. -/
theorem searchArrays_succ (h : s.HoldsArrays (n + 1) p q a b) :
    searchArrays (n + 1) p q s =
      if a n &&& b n = 0#16 then searchArrays n (p - 2#32) (q - 2#32) s
      else .ok (some (16 * n + leftmostOne (a n &&& b n))) s := by
  obtain ⟨left, right⟩ := h n n.lt_succ_self
  rw [blockAddr_last] at left right
  rw [searchArrays, readHalf_value hm left, Res.bind_ok, readHalf_value hm right, Res.bind_ok, hm,
    if_neg Bool.false_ne_true]

theorem searchArrays_none (h : s.HoldsArrays n p q a b) (clear : ∀ j, j < n → a j &&& b j = 0#16) :
    searchArrays n p q s = .ok none s := by
  induction n generalizing p q with
  | zero => rfl
  | succ n ih =>
    rw [searchArrays_succ hm h, if_pos (clear n n.lt_succ_self)]
    exact ih h.init fun j hj => clear j (by omega)

theorem searchArrays_some (h : s.HoldsArrays n p q a b) {j : Nat} (hj : j < n)
    (clear : ∀ i, j < i → i < n → a i &&& b i = 0#16) (hb : a j &&& b j ≠ 0#16) :
    searchArrays n p q s = .ok (some (16 * j + leftmostOne (a j &&& b j))) s := by
  induction n generalizing p q with
  | zero => omega
  | succ n ih =>
    rw [searchArrays_succ hm h]
    rcases Nat.eq_or_lt_of_le (Nat.le_of_lt_succ hj) with rfl | lt
    · rw [if_neg hb]
    · rw [if_pos (clear n lt n.lt_succ_self)]
      exact ih h.init lt fun i hi hn => clear i hi (by omega)

end Search

/-! ## The instruction -/

/-- What an instruction has written, and the program counter besides. -/
theorem State.Wrote.onlyRegs {ds : List Reg} {s t : State} (h : s.begin.Wrote ds t) (a : Addr) :
    s.OnlyRegs (t.setPc a) ds := by
  refine ⟨?_, h.2⟩
  rw [h.1]
  rfl

/-- What ARAND leaves open (R216). -/
theorem State.Wrote.afterArand {ds : List Reg} {s t : State} (h : s.Wrote ds t) {r1 : Reg} (h1 : r1 ∈ ds)
    (h2 : nextReg r1 ∈ ds) : s.Wrote ds (t.afterArand r1) :=
  ((h.freeReg h1).freeReg h2).tick.setFlags _

/-- The registers ARAND leaves open are x[R1] and x[R1+1]. -/
theorem afterArand_reg {s : State} {r1 r : Reg} (h1 : r ≠ r1) (h2 : r ≠ nextReg r1) :
    (s.afterArand r1).reg r = s.reg r :=
  (State.reg_setReg_other _ _ _ _ h2).trans (State.reg_setReg_other _ _ _ _ h1)

section Arand

variable {s : State} {r1 r2 : Reg} {n : Nat} (hl : s.params.microcode ≠ .belowS15)

include hl

theorem execArand_partial (h : (s.reg r2 + 1#32).toNat % 16 ≠ 0) :
    execArand r1 r2 s = .refused .arandPartialHalfword := by
  rw [execArand, sinceS15_value hl]
  exact transfer_refused (if_neg h)

variable (hn : (s.reg r2 + 1#32).toNat = 16 * n)

include hn

/-- ARAND by what its search finds: the number of a bit, and control goes on, or nothing, and it skips. -/
theorem execArand_value {found : Option Nat}
    (h : searchArrays n (s.reg r1) (s.reg (nextReg r1)) s.begin = .ok found s.begin) :
    execArand r1 r2 s = .next (match found with
      | some k => ((s.begin.setReg r2 (BitVec.ofNat 32 k)).afterArand r1).setPc (nextAddr s.pc 2)
      | none => ((s.begin.freeReg r2).afterArand r1).setPc (nextAddr s.pc 4)) := by
  have whole : (s.reg r2 + 1#32).toNat % 16 = 0 := by omega
  have count : (s.begin.reg r2 + 1#32).toNat / 16 = n := by
    change (s.reg r2 + 1#32).toNat / 16 = n
    omega
  rw [execArand, sinceS15_value hl]
  refine transfer_ok ((if_pos whole).trans ?_) (by cases found <;> rfl)
  rw [count]
  refine Res.bind_eq_ok.2 ⟨found, s.begin, h, ?_⟩
  cases found <;> rfl

end Arand

/-- Settles O29: by what the search finds, from `searchArrays_some` and `searchArrays_none`. -/
theorem arrayAnd : Obligations.ArrayAnd := by
  intro s r1 r2 hl only
  rw [exec_arand]
  have wrote := State.Wrote.refl [r1, r1 + 1#4, r2] s.begin
  refine ⟨fun n a b hn arrays => ⟨fun j k hj hk clear hb first => ?found, fun clear => ?none_⟩,
    execArand_partial hl⟩
  case found =>
    have search := searchArrays_some (s := s.begin) rfl arrays hj clear (ne_zero_of_getMsbD hb)
    rw [leftmostOne_eq hk hb first] at search
    refine ⟨_, execArand_value hl hn search, rfl, fun h1 h2 => ?_, ?_⟩
    · exact (afterArand_reg h1 h2).trans (State.reg_setReg_same _ _ _)
    · exact ((wrote.setReg (by simp) _).afterArand (by simp) (by simp [nextReg])).onlyRegs _
  case none_ =>
    have search := searchArrays_none (s := s.begin) rfl arrays clear
    refine ⟨_, execArand_value hl hn search, rfl, ?_⟩
    exact ((wrote.freeReg (by simp)).afterArand (by simp) (by simp [nextReg])).onlyRegs _

end Sys2Proof.Machine

/-! # The jumps on condition, with a link, and on the first one

Each ends with a jump from the state in which its other effects are done: how that jump completes, untraced or
traced, then what each instruction does before it (R260 to R274, R485). -/

namespace Sys2Proof.Machine

/-! ## What a mask selects (R260) -/

/-- The condition code is the last four bits of the PSW (R40). -/
theorem Psw.toBits_conditionCode (q : Psw) :
    q.toBits.getLsbD 3 = q.c ∧ q.toBits.getLsbD 2 = q.v ∧ q.toBits.getLsbD 1 = q.g ∧
      q.toBits.getLsbD 0 = q.l := by
  rw [Psw.toBits]
  simp only [BitVec.getLsbD_append]
  simp

section Mask

variable (s : State) (mask : Nib)

theorem maskedCc_getLsbD (i : Nat) :
    (s.maskedCc mask).getLsbD i = (mask.getLsbD i && s.psw.toBits.getLsbD i) := by
  rw [State.maskedCc, BitVec.getLsbD_and, BitVec.getLsbD_setWidth, Bool.and_comm]
  cases selected : mask.getLsbD i with
  | false => rw [Bool.and_false]
  | true =>
    have inside : i < 16 := Nat.lt_trans (BitVec.lt_of_getLsbD selected) (by decide)
    rw [decide_eq_true inside, Bool.true_and]

/-- A mask selects no bit of the condition code when it meets none. -/
theorem maskedCc_eq_zero_iff : s.maskedCc mask = 0#16 ↔ s.psw.meets mask = false := by
  obtain ⟨c, v, g, l⟩ := s.psw.toBits_conditionCode
  simp only [Psw.meets, Bool.or_eq_false_iff, ← c, ← v, ← g, ← l, ← maskedCc_getLsbD]
  constructor
  · intro zero
    simp [zero]
  · rintro ⟨⟨⟨bit3, bit2⟩, bit1⟩, bit0⟩
    refine BitVec.eq_of_getLsbD_eq fun i _ => ?_
    rw [BitVec.getLsbD_zero]
    match i with
    | 0 => exact bit0
    | 1 => exact bit1
    | 2 => exact bit2
    | 3 => exact bit3
    | i + 4 => rw [maskedCc_getLsbD, BitVec.getLsbD_of_ge mask _ (by omega), Bool.false_and]

theorem meets_eq_maskedCc : s.psw.meets mask = (s.maskedCc mask != 0#16) := by
  rw [Bool.eq_iff_iff, bne_iff_ne, ne_eq, maskedCc_eq_zero_iff, Bool.not_eq_false]

theorem not_meets_eq_maskedCc : (!s.psw.meets mask) = (s.maskedCc mask == 0#16) := by
  rw [meets_eq_maskedCc, bne, Bool.not_not]

end Mask

/-- Settles O34: each jump by the condition its mask selects. -/
theorem jumpOnCondition : Obligations.JumpOnCondition := by
  intro mask n r2 rx true_ false_
  have met (s : State) : s.psw.meets mask = true_ s := meets_eq_maskedCc s mask
  have unmet (s : State) : (!s.psw.meets mask) = false_ s := not_meets_eq_maskedCc s mask
  refine ⟨?jt, ?jf, ?jtr, ?jfr, ?jtbs, ?jtfs, ?jfbs, ?jffs⟩
  case jt => exact jumpsWhen_renamed (jt_jumps mask rx) (fun _ => rfl) rfl met
  case jf => exact jumpsWhen_renamed (jf_jumps mask rx) (fun _ => rfl) rfl unmet
  case jtr => exact jumpsWhen_renamed (jtr_jumps mask r2) (fun _ => rfl) rfl met
  case jfr => exact jumpsWhen_renamed (jfr_jumps mask r2) (fun _ => rfl) rfl unmet
  case jtbs => exact jumpsWhen_renamed (jtbs_jumps mask n) (fun _ => rfl) rfl met
  case jtfs => exact jumpsWhen_renamed (jtfs_jumps mask n) (fun _ => rfl) rfl met
  case jfbs => exact jumpsWhen_renamed (jfbs_jumps mask n) (fun _ => rfl) rfl unmet
  case jffs => exact jumpsWhen_renamed (jffs_jumps mask n) (fun _ => rfl) rfl unmet

/-! ## An instruction that ends with a jump (R274) -/

theorem finish_jumpTo_odd {a target : Addr} {u : State} (odd : target.getLsbD 0 = true) :
    finish a (jumpTo target u) = .refused .oddProgramCounter := by
  rw [jumpTo_odd u odd]
  rfl

theorem finish_jumpTo_untraced {a target : Addr} {u : State} (untraced : u.psw.t = false)
    (clear : u.pend.mac = false) (even : target.getLsbD 0 = false) :
    finish a (jumpTo target u) = .next (u.setPc target) := by
  rw [jumpTo_untraced even untraced, finish_ok (by exact clear)]

/-! ## The trace trap (R485) -/

theorem State.writeTrace_untainted {s : State} {b : Bool} (h : s.pend.mac = false) :
    s.writeTrace b = s.setPsw { s.psw with t := b } := by
  rw [State.writeTrace, h, if_neg Bool.false_ne_true]

/-- A traced jump, where the target and the PSW can be stored and the routine's location can be read. -/
theorem finish_jumpTo_traced {a target : Addr} {u v w : State} {x : Word} (traced : u.psw.t = true)
    (clear : u.pend.mac = false) (even : target.getLsbD 0 = false)
    (storedTarget : u.storedFull 0x14#32 (pcImage target) = some v)
    (storedPsw : v.storedFull 0x10#32 u.psw.image = some w) (routine : w.dataFull 0x18#32 = some x)
    (evenRoutine : (pcOfImage x).getLsbD 0 = false) :
    finish a (jumpTo target u) = .next ((w.setPsw { w.psw with t := false }).setPc (pcOfImage x)) := by
  have clearV : v.pend.mac = false := by rw [State.storedFull_pend storedTarget, clear]
  have clearW : w.pend.mac = false := by rw [State.storedFull_pend storedPsw, clearV]
  rw [jumpTo_traced even traced, writeFull_value clear storedTarget, Res.bind_ok,
    writeFull_value clearV storedPsw, Res.bind_ok, State.writeTrace_untainted clearW,
    readFull_value (by exact clearW) (by exact routine), Res.bind_ok,
    loadPc_value (by exact clearW) evenRoutine, finish_ok (by exact clearW)]

/-- An instruction that ends with a jump traps from the state in which its other effects are done. -/
theorem trapsFrom_of_jumpTo {i : Instr} {s u : State} {target : Addr}
    (hi : exec i s = finish s.pc (jumpTo target u)) (traced : s.psw.t = true) (psw : u.psw = s.psw)
    (clear : u.pend.mac = false) : TrapsFrom i s u target := by
  refine ⟨fun even v w x storedTarget storedPsw routine evenRoutine => hi.trans ?_,
    fun odd => hi.trans (finish_jumpTo_odd odd)⟩
  rw [← psw] at traced storedPsw
  exact finish_jumpTo_traced traced clear even storedTarget storedPsw routine evenRoutine

/-! ## Jump and link (R270, R271) -/

theorem jumpLink_eq (len : Nat) (r1 : Reg) (target : State → Addr) (s : State) :
    jumpLink len r1 target s =
      finish s.pc (jumpTo (target s.begin) (s.begin.setReg r1 (pcImage (nextAddr s.pc len)))) := by
  rw [jumpLink, transfer, State.writeReg_untainted _ _ _ rfl, State.begin_pc]

theorem exec_jal_eq (r1 : Reg) (rx : RxAddr) (s : State) :
    exec (.jal r1 rx) s =
      finish s.pc (jumpTo (s.targetRx rx) (s.begin.setReg r1 (pcImage (nextAddr s.pc rx.length)))) := by
  rw [exec_jal, execJal, jumpLink_eq, targetRx_begin]
  rfl

theorem exec_jalr_eq (r1 r2 : Reg) (s : State) :
    exec (.jalr r1 r2) s =
      finish s.pc (jumpTo (s.targetReg r2) (s.begin.setReg r1 (pcImage (nextAddr s.pc 2)))) :=
  jumpLink_eq 2 r1 (·.targetReg r2) s

theorem pcImage_eq (a : Addr) : pcImage a = BitVec.ofNat 32 a.toNat := (BitVec.ofNat_toNat 32 a).symm

/-- Settles O37: each is its link and a jump, which is not traced. -/
theorem jumpAndLink : Obligations.JumpAndLink := by
  intro s r1 r2 rx untraced
  simp only [← pcImage_eq, ← programAddr_bit]
  refine ⟨fun even => ?jal, fun odd => ?jalOdd, fun even => ?jalr, fun odd => ?jalrOdd⟩
  case jal => exact (exec_jal_eq r1 rx s).trans (finish_jumpTo_untraced untraced rfl even)
  case jalOdd => exact (exec_jal_eq r1 rx s).trans (finish_jumpTo_odd odd)
  case jalr => exact (exec_jalr_eq r1 r2 s).trans (finish_jumpTo_untraced untraced rfl even)
  case jalrOdd => exact (exec_jalr_eq r1 r2 s).trans (finish_jumpTo_odd odd)

/-! ## Jump on find first one (R272, R273) -/

section FirstOne

variable {w : Nat} {r1 : Reg} {n : Nib} {v : State → BitVec w} {s : State}

theorem jumpFirstOne_zero (zero : v s.begin = 0#w) :
    jumpFirstOne r1 n v s = .next (s.begin.setPc (nextAddr s.pc 2)) :=
  transfer_ok (if_pos zero) rfl

/-- The number of the leftmost 1 is counted into x[R1+1] before the jump. -/
theorem jumpFirstOne_one {k : Nat} (one : (v s.begin).getMsbD k = true)
    (first : ∀ j, j < k → (v s.begin).getMsbD j = false) :
    jumpFirstOne r1 n v s =
      finish s.pc (jumpTo (s.targetForward n) (s.begin.setReg (r1 + 1#4) (BitVec.ofNat 32 k))) := by
  have nonzero : v s.begin ≠ 0#w := fun zero => by simp [zero] at one
  rw [jumpFirstOne, transfer, if_neg nonzero, leftmostOne_eq (BitVec.lt_of_getMsbD one) one first,
    State.writeReg_untainted _ _ _ rfl]
  rfl

theorem targetForward_even (n : Nib) (even : s.pc.getLsbD 0 = false) :
    (s.targetForward n).getLsbD 0 = false := by
  refine add_even even ?_
  rw [twice_short, BitVec.getLsbD, Nat.testBit_zero, BitVec.toNat_ofNat, decide_eq_false_iff_not]
  omega

end FirstOne

/-- Settles O38: the number of the leftmost 1 and a jump, which is not traced and goes to an even location.
(`jumpFirstOne` is the model's own.) -/
theorem jumpFirstOne_jumps : Obligations.JumpFirstOne := by
  intro s r1 n untraced even h target
  have forward : s.targetForward n = target := targetForward_begin n s
  have evenTarget := targetForward_even n even
  have jumps (k : Nat) :
      finish s.pc (jumpTo (s.targetForward n) (s.begin.setReg (r1 + 1#4) (BitVec.ofNat 32 k))) =
        .next ((s.begin.setReg (r1 + 1#4) (BitVec.ofNat 32 k)).setPc target) := by
    rw [← forward]
    exact finish_jumpTo_untraced untraced rfl evenTarget
  refine ⟨fun zero => ?zero, fun k one first => ?one, fun zero => ?zeroHalf, fun k one first => ?oneHalf⟩
  case zero => exact jumpFirstOne_zero (v := (·.reg r1)) zero
  case one => exact (jumpFirstOne_one (v := (·.reg r1)) one first).trans (jumps k)
  case zeroHalf => exact jumpFirstOne_zero (v := (·.regHalf r1)) zero
  case oneHalf => exact (jumpFirstOne_one (v := (·.regHalf r1)) one first).trans (jumps k)

/-! ## Which jumps trap (R485, D17) -/

section Traps

variable {s : State} {i : Instr} {mask : Nib} {len : Nat} {place : State → Addr} (traced : s.psw.t = true)

include traced

/-- A taken jump has no other effect than to jump. -/
theorem trapsFrom_of_jumpIf {taken : State → Bool} (hi : exec i s = jumpIf len taken place s)
    (yes : taken s.begin = true) : TrapsFrom i s s.begin (place s.begin) := by
  refine trapsFrom_of_jumpTo ?_ traced rfl rfl
  rw [hi, jumpIf, transfer, if_pos yes]

theorem trapsFrom_of_jumpTrue (hi : exec i s = jumpTrue mask len place s) (met : s.psw.meets mask = true) :
    TrapsFrom i s s.begin (place s.begin) :=
  trapsFrom_of_jumpIf traced hi met

theorem trapsFrom_of_jumpFalse (hi : exec i s = jumpFalse mask len place s)
    (unmet : s.psw.meets mask = false) : TrapsFrom i s s.begin (place s.begin) :=
  trapsFrom_of_jumpIf traced hi (congrArg not unmet)

theorem trapsFrom_unconditional (hi : exec i s = jumpFalse 0#4 len place s) :
    TrapsFrom i s s.begin (place s.begin) :=
  trapsFrom_of_jumpFalse traced hi (meets_zero s.psw)

/-- The conditional extended mnemonics of one operand form: each by its mask (R269). -/
theorem trapsFrom_extended {je jn jg jge jle jl jc jnc : Instr}
    (equal : exec je s = jumpFalse 3#4 len place s) (notEqual : exec jn s = jumpTrue 3#4 len place s)
    (greater : exec jg s = jumpTrue 2#4 len place s) (notLess : exec jge s = jumpFalse 1#4 len place s)
    (notGreater : exec jle s = jumpFalse 2#4 len place s) (less : exec jl s = jumpTrue 1#4 len place s)
    (carry : exec jc s = jumpTrue 8#4 len place s) (noCarry : exec jnc s = jumpFalse 8#4 len place s) :
    ∀ p ∈ [(je, !s.psw.g && !s.psw.l), (jn, s.psw.g || s.psw.l), (jg, s.psw.g), (jge, !s.psw.l),
        (jle, !s.psw.g), (jl, s.psw.l), (jc, s.psw.c), (jnc, !s.psw.c)],
      p.2 = true → TrapsFrom p.1 s s.begin (place s.begin) := by
  simp only [List.forall_mem_cons, List.not_mem_nil, false_imp_iff, implies_true, and_true]
  refine ⟨fun e => ?je, fun e => ?jn, fun e => ?jg, fun e => ?jge, fun e => ?jle, fun e => ?jl, fun e => ?jc,
    fun e => ?jnc⟩
  case je => exact trapsFrom_of_jumpFalse traced equal (by simpa using e)
  case jn => exact trapsFrom_of_jumpTrue traced notEqual (by simpa using e)
  case jg => exact trapsFrom_of_jumpTrue traced greater (by simpa using e)
  case jge => exact trapsFrom_of_jumpFalse traced notLess (by simpa using e)
  case jle => exact trapsFrom_of_jumpFalse traced notGreater (by simpa using e)
  case jl => exact trapsFrom_of_jumpTrue traced less (by simpa using e)
  case jc => exact trapsFrom_of_jumpTrue traced carry (by simpa using e)
  case jnc => exact trapsFrom_of_jumpFalse traced noCarry (by simpa using e)

/-- With a count, JFFO and JFFOH jump (R272, R273). -/
theorem trapsFrom_of_jumpFirstOne {w : Nat} {r1 : Reg} {n : Nib} {v : State → BitVec w} {k : Nat}
    (hi : exec i s = jumpFirstOne r1 n v s) (one : (v s.begin).getMsbD k = true)
    (first : ∀ j, j < k → (v s.begin).getMsbD j = false) :
    TrapsFrom i s (s.begin.setReg (r1 + 1#4) (BitVec.ofNat 32 k)) (s.targetForward n) :=
  trapsFrom_of_jumpTo (hi.trans (jumpFirstOne_one one first)) traced rfl rfl

end Traps

/-- Settles O39: each instruction by the jump it ends with, from the state before it. -/
theorem traceTrap : Obligations.TraceTrap := by
  intro s mask n r1 r2 rx traced
  have far : s.begin.targetRx rx = s.targetRx rx := targetRx_begin rx s
  refine ⟨fun met => ⟨?jt, ?jtr, ?jtbs, ?jtfs⟩, fun unmet => ⟨?jf, ?jfr, ?jfbs, ?jffs⟩, ?jal, ?jalr, ?j, ?jr,
    ⟨?extendedRx, ?extendedRr, ?extendedBackward, ?extendedForward⟩, fun k one first => ?jffo,
    fun k one first => ?jffoh, fun zero => ?jffoZero, fun zero => ?jffohZero⟩
  case jt => exact far ▸ trapsFrom_of_jumpTrue (place := (·.targetRx rx)) traced rfl met
  case jtr => exact trapsFrom_of_jumpTrue (place := (·.targetReg r2)) traced rfl met
  case jtbs => exact trapsFrom_of_jumpTrue (place := (·.targetBackward n)) traced rfl met
  case jtfs => exact trapsFrom_of_jumpTrue (place := (·.targetForward n)) traced rfl met
  case jf => exact far ▸ trapsFrom_of_jumpFalse (place := (·.targetRx rx)) traced rfl unmet
  case jfr => exact trapsFrom_of_jumpFalse (place := (·.targetReg r2)) traced rfl unmet
  case jfbs => exact trapsFrom_of_jumpFalse (place := (·.targetBackward n)) traced rfl unmet
  case jffs => exact trapsFrom_of_jumpFalse (place := (·.targetForward n)) traced rfl unmet
  case jal => exact trapsFrom_of_jumpTo (exec_jal_eq r1 rx s) traced rfl rfl
  case jalr => exact trapsFrom_of_jumpTo (exec_jalr_eq r1 r2 s) traced rfl rfl
  case j => exact far ▸ trapsFrom_unconditional (place := (·.targetRx rx)) traced rfl
  case jr => exact trapsFrom_unconditional (place := (·.targetReg r2)) traced rfl
  case extendedRx =>
    exact far ▸ trapsFrom_extended (place := (·.targetRx rx)) traced rfl rfl rfl rfl rfl rfl rfl rfl
  case extendedRr =>
    exact trapsFrom_extended (place := (·.targetReg r2)) traced rfl rfl rfl rfl rfl rfl rfl rfl
  case extendedBackward =>
    exact List.forall_mem_cons.2
      ⟨fun _ => trapsFrom_unconditional (place := (·.targetBackward n)) traced rfl,
        trapsFrom_extended (place := (·.targetBackward n)) traced rfl rfl rfl rfl rfl rfl rfl rfl⟩
  case extendedForward =>
    exact List.forall_mem_cons.2
      ⟨fun _ => trapsFrom_unconditional (place := (·.targetForward n)) traced rfl,
        trapsFrom_extended (place := (·.targetForward n)) traced rfl rfl rfl rfl rfl rfl rfl rfl⟩
  case jffo => exact trapsFrom_of_jumpFirstOne (v := (·.reg r1)) traced rfl one first
  case jffoh => exact trapsFrom_of_jumpFirstOne (v := (·.regHalf r1)) traced rfl one first
  case jffoZero => exact jumpFirstOne_zero (v := (·.reg r1)) zero
  case jffohZero => exact jumpFirstOne_zero (v := (·.regHalf r1)) zero

end Sys2Proof.Machine

/-! # Arithmetic

Each instruction by its shape, its operand where that can be read, and the arithmetic of the shape in plain
numbers (R280 to R318). -/

namespace Sys2Proof.Machine

/-! ## Operands without a fault -/

section Operands

variable {s : State} {rx : RxAddr}

theorem operandHalfZero_value {h : Half} (e : s.dataHalf (s.effAddr rx) = some h) :
    operandHalfZero rx s.begin = .ok (h.setWidth 32) s.begin :=
  Res.bind_eq_ok.2 ⟨h, s.begin, readHalf_value rfl e, rfl⟩

theorem operandByte_value {b : Byte} (e : s.dataByte (s.effAddr rx) = some b) :
    operandByte rx s.begin = .ok (b.setWidth 32) s.begin :=
  Res.bind_eq_ok.2 ⟨b, s.begin, readByte_value rfl e, rfl⟩

theorem operandShort_value (n : Nib) :
    operandOf (fun _ => shortOperand n) s.begin = .ok (BitVec.ofNat 32 n.toNat) s.begin := by
  rw [operandOf, shortOperand_eq]

theorem operandLow_value (r2 : Reg) :
    operandOf (fun t => (t.regHalf r2).setWidth 32) s.begin = .ok ((s.regHalf r2).setWidth 32) s.begin :=
  rfl

end Operands

/-- Bits 16:31 of a register, as a number. -/
theorem regHalf_toNat (s : State) (r : Reg) : (s.regHalf r).toNat = (s.reg r).toNat % 65536 :=
  BitVec.toNat_setWidth 16 _

/-! ## Sums and differences -/

theorem sub_eq_ofInt {w : Nat} (a b : BitVec w) : a - b = BitVec.ofInt w (a.toInt - b.toInt) := by
  rw [← BitVec.toInt_inj, BitVec.toInt_sub, BitVec.toInt_ofInt]

/-- AddCC (R280). -/
theorem addFlags_eq (a b : Word) :
    addFlags a b =
      ccOf (decide (2 ^ 32 ≤ a.toNat + b.toNat)) (BitVec.ofNat 32 (a.toNat + b.toNat)).toInt :=
  signFlags_eq _ _

/-- SubCC (R289): C says that there is no borrow. -/
theorem subFlags_eq (a b : Word) : subFlags a b = ccOf (decide (b.toNat ≤ a.toNat)) (a - b).toInt :=
  signFlags_eq _ _

/-- Cmp (R303): the true difference, which may not fit in 32 bits. -/
theorem compareFlags_eq (c : Bool) (a b : Word) : compareFlags c a b = ccOf c (a.toInt - b.toInt) := by
  simp only [compareFlags, ccOf, BitVec.slt_eq_decide, Int.sub_pos, sub_neg]

/-- The difference of two bytes always fits (R302). -/
theorem byteDifference_toInt (w : Word) (b : Byte) :
    (((w.setWidth 8 : Byte).setWidth 32 : Word) - b.setWidth 32).toInt =
      ((w.toNat % 256 : Nat) : Int) - b.toNat := by
  have small : b.toNat < 256 := b.isLt
  have widened (c : Byte) : (c.setWidth 32 : Word).toInt = c.toNat := by
    rw [BitVec.toInt_setWidth, Int.bmod_eq_of_le (by omega) (by omega)]
  rw [BitVec.toInt_sub, widened, widened, BitVec.toNat_setWidth, Int.bmod_eq_of_le (by omega) (by omega)]

/-! ## The shapes of addition, subtraction and comparison -/

section Shapes

variable {s : State} {r1 : Reg} {len : Nat} {operand : State → Res Word} {v : Word}
  (h : operand s.begin = .ok v s.begin)

include h

theorem addTo_value :
    addTo len operand r1 s =
      .next (s.computed r1 (BitVec.ofNat 32 ((s.reg r1).toNat + v.toNat))
        (decide (2 ^ 32 ≤ (s.reg r1).toNat + v.toNat)) len) := by
  refine sequential_ok (u := (s.begin.setReg r1 (s.reg r1 + v)).setFlags _) ?_ rfl
  rw [h, Res.bind_ok, State.writeReg_untainted _ _ _ rfl, State.writeFlags_untainted _ _ (by rfl), addFlags_eq]
  rfl

theorem subFrom_value :
    subFrom len operand r1 s =
      .next (s.computed r1 (BitVec.ofInt 32 ((s.reg r1).toInt - v.toInt))
        (decide (v.toNat ≤ (s.reg r1).toNat)) len) := by
  rw [← sub_eq_ofInt]
  refine sequential_ok (u := (s.begin.setReg r1 (s.reg r1 - v)).setFlags _) ?_ rfl
  rw [h, Res.bind_ok, State.writeReg_untainted _ _ _ rfl, State.writeFlags_untainted _ _ (by rfl), subFlags_eq]
  rfl

theorem compareLogical_value :
    compareLogical len operand r1 s =
      .next (s.compared (decide (v.toNat ≤ (s.reg r1).toNat)) (s.reg r1 - v).toInt len) := by
  refine sequential_ok (u := s.begin.setFlags _) ?_ rfl
  rw [h, Res.bind_ok, State.writeFlags_untainted _ _ rfl, subFlags_eq]
  rfl

theorem compareSigned_value :
    compareSigned len operand r1 s =
      .next (s.tick.compared s.freeBit ((s.reg r1).toInt - v.toInt) len) := by
  refine sequential_ok (u := s.tick.begin.setFlags _) ?_ rfl
  rw [h, Res.bind_ok, State.writeFlags_untainted _ _ (by rfl), compareFlags_eq]
  rfl

end Shapes

/-- Settles O40: each addition by `addTo_value` and its operand. -/
theorem addResult : Obligations.AddResult := by
  intro s r1 r2 x2 n rx i16 i32 w h
  simp only [exec_ar, exec_ais, exec_ai, exec_ahi, exec_a, exec_ah]
  exact ⟨addTo_value rfl, addTo_value (operandShort_value n), addTo_value rfl, addTo_value rfl,
    fun hw => addTo_value (operandFull_value hw), fun hh => addTo_value (operandHalf_value hh)⟩

/-- Settles O41: each subtraction by `subFrom_value` and its operand. -/
theorem subtract : Obligations.Subtract := by
  intro s r1 r2 x2 n rx i16 i32 w h
  simp only [exec_sr, exec_sis, exec_si, exec_shi, exec_s, exec_sh]
  exact ⟨subFrom_value rfl, subFrom_value (operandShort_value n), subFrom_value rfl, subFrom_value rfl,
    fun hw => subFrom_value (operandFull_value hw), fun hh => subFrom_value (operandHalf_value hh)⟩

/-- CLB compares two bytes as numbers (R302). -/
theorem execClb_value {s : State} {r1 : Reg} {rx : RxAddr} {b : Byte}
    (e : s.dataByte (s.effAddr rx) = some b) :
    execClb r1 rx s =
      .next (s.tick.compared s.freeBit (((s.reg r1).toNat % 256 : Nat) - (b.toNat : Int)) rx.length) := by
  refine sequential_ok (u := s.tick.begin.setFlags _) ?_ rfl
  rw [operandByte_value e, Res.bind_ok, State.writeFlags_untainted _ _ (by rfl), signFlags_eq, State.regByte,
    byteDifference_toInt]
  rfl

/-- Settles O42: the logical and the signed comparison of each operand, and CLB. -/
theorem compareInstructions : Obligations.Compare := by
  intro s r1 r2 x2 rx i16 i32 w h b
  simp only [exec_clr, exec_cr, exec_cli, exec_ci, exec_clhi, exec_chi, exec_cl, exec_c, exec_clh, exec_ch,
    exec_clb]
  exact ⟨⟨compareLogical_value rfl, compareSigned_value rfl⟩,
    ⟨compareLogical_value rfl, compareSigned_value rfl⟩,
    ⟨compareLogical_value rfl, compareSigned_value rfl⟩,
    fun hw => ⟨compareLogical_value (operandFull_value hw), compareSigned_value (operandFull_value hw)⟩,
    fun hh => ⟨compareLogical_value (operandHalf_value hh), compareSigned_value (operandHalf_value hh)⟩,
    execClb_value⟩

/-! ## Additions to memory -/

/-- Settles O43: the operand read, the sum stored. AM sets the condition code after the store, AHM before it. -/
theorem addToMemory : Obligations.AddToMemory := by
  intro s t r1 rx w h x y full half
  rw [exec_am, exec_ahm]
  refine ⟨fun hw stored => ?am, fun hh stored => ?ahm⟩
  case am =>
    have clear : t.pend.mac = false := congrArg Pending.mac (State.storedFull_pend stored)
    refine sequential_ok (u := t.setFlags _) ?_ clear
    refine Res.bind_eq_ok.2 ⟨w, s.begin, operandFull_value hw, ?_⟩
    refine Res.bind_eq_ok.2 ⟨(), t, writeFull_value rfl stored, ?_⟩
    rw [clear, Bool.false_and, if_neg Bool.false_ne_true, State.writeFlags_untainted _ _ clear, addFlags_eq]
    rfl
  case ahm =>
    have clear : t.pend.mac = false := congrArg Pending.mac (State.storedAt_pend stored)
    refine sequential_ok (u := t) ?_ clear
    refine Res.bind_eq_ok.2 ⟨h.signExtend 32, s.begin, operandHalf_value hh, ?_⟩
    rw [State.writeFlags_untainted _ _ rfl, addFlags_eq]
    exact writeHalf_value rfl stored

/-! ## Products -/

theorem product_toNat (a b : Word) : (product a b).toNat = a.toNat * b.toNat := by
  have bound : a.toNat * b.toNat < 2 ^ 64 :=
    calc a.toNat * b.toNat < 2 ^ 32 * 2 ^ 32 := Nat.mul_lt_mul'' a.isLt b.isLt
      _ = 2 ^ 64 := by decide
  rw [product, BitVec.toNat_mul, BitVec.toNat_setWidth_of_le (by decide), BitVec.toNat_setWidth_of_le (by decide),
    Nat.mod_eq_of_lt bound]

/-- The left fullword of a product. -/
theorem product_left (a b : Word) :
    (product a b).extractLsb' 32 32 = BitVec.ofNat 32 (a.toNat * b.toNat / 2 ^ 32) := by
  rw [BitVec.extractLsb', product_toNat, Nat.shiftRight_eq_div_pow]

/-- The right fullword of a product. -/
theorem product_right (a b : Word) : (product a b).setWidth 32 = BitVec.ofNat 32 (a.toNat * b.toNat) := by
  rw [← BitVec.ofNat_toNat, product_toNat]

/-- A fullword multiplication leaves the product in the register pair (R310). -/
theorem multiply_value {s : State} {r1 : Reg} {len : Nat} {operand : State → Res Word} {v : Word}
    (h : operand s.begin = .ok v s.begin) :
    multiply len operand r1 s =
      .next (((s.begin.setReg r1
        (BitVec.ofNat 32 ((s.reg (nextReg r1)).toNat * v.toNat / 2 ^ 32))).setReg (nextReg r1)
          (BitVec.ofNat 32 ((s.reg (nextReg r1)).toNat * v.toNat))).setPc (nextAddr s.pc len)) := by
  refine sequential_ok ?_ rfl
  rw [h, Res.bind_ok]
  dsimp only
  rw [State.writeReg_untainted _ _ _ rfl, State.writeReg_untainted _ _ _ (by rfl), product_left, product_right]
  rfl

/-- A halfword multiplication is of the numbers of the two halfwords (R312, D26). -/
theorem multiplyHalf_value {s : State} {r1 : Reg} {len : Nat} {operand : State → Res Word} {h : Half}
    (e : operand s.begin = .ok (h.setWidth 32) s.begin) :
    multiplyHalf len operand r1 s =
      .next ((s.begin.setReg r1 (BitVec.ofNat 32 ((s.reg r1).toNat % 65536 * h.toNat))).setPc
        (nextAddr s.pc len)) := by
  have factors : (s.regHalf r1).setWidth 32 * h.setWidth 32 =
      BitVec.ofNat 32 ((s.reg r1).toNat % 65536 * h.toNat) := by
    rw [← BitVec.ofNat_toNat, ← BitVec.ofNat_toNat, ← BitVec.ofNat_mul, regHalf_toNat]
  refine sequential_ok (u := s.begin.setReg r1 _) ?_ rfl
  rw [e, Res.bind_ok, State.writeReg_untainted _ _ _ rfl, ← factors]
  rfl

/-- Settles O44: each multiplication by its shape and its operand. -/
theorem multiplyInstructions : Obligations.Multiply := by
  intro s r1 r2 rx w h
  simp only [exec_mr, exec_mhr, exec_m, exec_mh]
  refine ⟨multiply_value rfl, ?mhr, fun hw => multiply_value (operandFull_value hw),
    fun hh => multiplyHalf_value (operandHalfZero_value hh)⟩
  case mhr =>
    rw [← regHalf_toNat s r2]
    exact multiplyHalf_value (operandLow_value r2)

/-! ## Quotients -/

theorem dividend_toNat (hi lo : Word) : (hi ++ lo).toNat = hi.toNat * 2 ^ 32 + lo.toNat := by
  rw [BitVec.toNat_append, ← Nat.shiftLeft_add_eq_or_of_lt lo.isLt, Nat.shiftLeft_eq]

theorem quotient_and_remainder {n d q r : Nat} (h : n = q * d + r) (hr : r < d) : n / d = q ∧ n % d = r :=
  (Nat.div_mod_unique (Nat.zero_lt_of_lt hr)).2 ⟨by rw [h, Nat.mul_comm, Nat.add_comm], hr⟩

/-- A divisor that is zero, or so small that the quotient does not fit (R314). -/
theorem zero_or_le_div {w k n : Nat} {d : BitVec w} (h : d = 0#w ∨ k * d.toNat ≤ n) :
    d = 0#w ∨ k ≤ n / d.toNat := by
  by_cases zero : d = 0#w
  · exact .inl zero
  · have positive : 0 < d.toNat := Nat.pos_of_ne_zero fun e => zero (BitVec.eq_of_toNat_eq e)
    exact .inr ((Nat.le_div_iff_mul_le positive).2 (h.resolve_left zero))

/-- A divisor that leaves a remainder is not zero, and a quotient below the bound fits (R315, R317). -/
theorem not_zero_or_le_div {w k n q r : Nat} {d : BitVec w} (hq : q < k) (h : n = q * d.toNat + r)
    (hr : r < d.toNat) : ¬(d = 0#w ∨ k ≤ n / d.toNat) := by
  rw [(quotient_and_remainder h hr).1]
  rintro (rfl | large)
  · exact absurd hr (Nat.not_lt_zero r)
  · omega

theorem divideFull_none {hi lo d : Word}
    (h : d = 0#32 ∨ 2 ^ 32 * d.toNat ≤ hi.toNat * 2 ^ 32 + lo.toNat) : divideFull hi lo d = none := by
  rw [← dividend_toNat] at h
  exact if_pos (zero_or_le_div h)

theorem divideFull_some {hi lo d : Word} {q r : Nat} (hq : q < 4294967296)
    (h : hi.toNat * 2 ^ 32 + lo.toNat = q * d.toNat + r) (hr : r < d.toNat) :
    divideFull hi lo d = some (BitVec.ofNat 32 r, BitVec.ofNat 32 q) := by
  rw [← dividend_toNat] at h
  obtain ⟨quotient, remainder⟩ := quotient_and_remainder h hr
  rw [divideFull, if_neg (not_zero_or_le_div hq h hr), quotient, remainder]

theorem divideHalf_none {n : Word} {d : Half} (h : d = 0#16 ∨ 65536 * d.toNat ≤ n.toNat) :
    divideHalf n d = none :=
  if_pos (zero_or_le_div h)

theorem divideHalf_some {n : Word} {d : Half} {q r : Nat} (hq : q < 65536)
    (h : n.toNat = q * d.toNat + r) (hr : r < d.toNat) :
    divideHalf n d = some ((BitVec.ofNat 16 r).signExtend 32, (BitVec.ofNat 16 q).signExtend 32) := by
  obtain ⟨quotient, remainder⟩ := quotient_and_remainder h hr
  rw [divideHalf, if_neg (not_zero_or_le_div hq h hr), quotient, remainder]

/-! ## The end of a division -/

section Division

variable {s : State} {r1 : Reg} {len : Nat} {body : State → Res Unit} {result : Option (Word × Word)}
  (h : body s.begin = .ok () (s.begin.writeDivision r1 result))

include h

/-- Remainder and quotient go to the register pair (R315). -/
theorem sequential_quotient {q r : Word} (e : result = some (r, q)) :
    sequential len body s =
      .next (((s.begin.setReg r1 r).setReg (nextReg r1) q).setPc (nextAddr s.pc len)) := by
  refine sequential_ok (h.trans ?_) rfl
  rw [e, State.writeDivision, State.writeReg_untainted _ _ _ rfl, State.writeReg_untainted _ _ _ (by rfl)]

/-- Without a quotient the pair holds the next two free values (R314, D15). -/
theorem sequential_noQuotient (e : result = none) :
    ∃ a b : Word, sequential len body s =
      .next (((s.begin.tick.tick.setReg r1 a).setReg (nextReg r1) b).setPc (nextAddr s.pc len)) := by
  refine ⟨s.free, s.tick.free, sequential_ok (h.trans ?_) rfl⟩
  rw [e, State.writeDivision, State.writeReg_untainted _ _ _ (by rfl), State.writeReg_untainted _ _ _ (by rfl)]
  rfl

end Division

/-! ## The instructions that divide -/

section Shapes

variable {s : State} {r1 : Reg} {len : Nat} {operand : State → Res Word} {v : Word}
  (h : operand s.begin = .ok v s.begin)

include h

theorem divide_value {q r : Nat} (hq : q < 2 ^ 32)
    (hn : (s.reg r1).toNat * 2 ^ 32 + (s.reg (nextReg r1)).toNat = q * v.toNat + r) (hr : r < v.toNat) :
    divide len operand r1 s =
      .next (((s.begin.setReg r1 (BitVec.ofNat 32 r)).setReg (nextReg r1) (BitVec.ofNat 32 q)).setPc
        (nextAddr s.pc len)) :=
  sequential_quotient (by rw [h]; rfl) (divideFull_some hq hn hr)

theorem divide_open
    (hn : v = 0#32 ∨ 2 ^ 32 * v.toNat ≤ (s.reg r1).toNat * 2 ^ 32 + (s.reg (nextReg r1)).toNat) :
    ∃ a b : Word, divide len operand r1 s =
      .next (((s.begin.tick.tick.setReg r1 a).setReg (nextReg r1) b).setPc (nextAddr s.pc len)) :=
  sequential_noQuotient (by rw [h]; rfl) (divideFull_none hn)

theorem divideByHalf_value {q r : Nat} (hq : q < 2 ^ 16)
    (hn : (s.reg r1).toNat = q * (v.setWidth 16 : Half).toNat + r) (hr : r < (v.setWidth 16 : Half).toNat) :
    divideByHalf len operand r1 s =
      .next (((s.begin.setReg r1 ((BitVec.ofNat 16 r).signExtend 32)).setReg (nextReg r1)
        ((BitVec.ofNat 16 q).signExtend 32)).setPc (nextAddr s.pc len)) :=
  sequential_quotient (by rw [h]; rfl) (divideHalf_some hq hn hr)

theorem divideByHalf_open
    (hn : v.setWidth 16 = 0#16 ∨ 65536 * (v.setWidth 16 : Half).toNat ≤ (s.reg r1).toNat) :
    ∃ a b : Word, divideByHalf len operand r1 s =
      .next (((s.begin.tick.tick.setReg r1 a).setReg (nextReg r1) b).setPc (nextAddr s.pc len)) :=
  sequential_noQuotient (by rw [h]; rfl) (divideHalf_none hn)

end Shapes

/-- The divisor of DH: the sign the operand carries plays no part (R317, D26). -/
theorem setWidth_signExtend_half (h : Half) : (h.signExtend 32).setWidth 16 = h := by
  apply BitVec.eq_of_getElem_eq
  intro i hi
  rw [BitVec.getElem_setWidth, BitVec.getLsbD_signExtend, decide_eq_true (by omega : i < 32), if_pos hi,
    Bool.true_and, BitVec.getLsbD_eq_getElem hi]

/-- The divisor of DHR is the low halfword of its register (R318). -/
theorem setWidth_setWidth_half (h : Half) : ((h.setWidth 32 : Word).setWidth 16 : Half) = h := by
  rw [BitVec.setWidth_setWidth_of_le _ (by decide), BitVec.setWidth_eq]

/-- Settles O45: each division by its shape and its divisor. -/
theorem divideInstructions : Obligations.Divide := by
  intro s r1 r2 rx w h q r
  simp only [exec_dr, exec_d, exec_dhr, exec_dh]
  refine ⟨fun hq hn hr => ⟨?dr, fun hw => divide_value (operandFull_value hw) hq hn hr⟩,
    fun hq hn hr => ⟨?dhr, fun hh => ?dh⟩⟩
  case dr =>
    rintro rfl
    exact divide_value rfl hq hn hr
  case dhr =>
    intro (e : s.regHalf r2 = h)
    rw [← e, ← setWidth_setWidth_half (s.regHalf r2)] at hn hr
    exact divideByHalf_value (operandLow_value r2) hq hn hr
  case dh =>
    rw [← setWidth_signExtend_half h] at hn hr
    exact divideByHalf_value (operandHalf_value hh) hq hn hr

/-- Settles O46: each division by its shape, where there is no quotient. -/
theorem divideOpen : Obligations.DivideOpen := by
  intro s r1 r2 rx w h
  simp only [exec_dr, exec_d, exec_dhr, exec_dh]
  refine ⟨divide_open rfl, fun hw => divide_open (operandFull_value hw), ?dhr, fun hh hn => ?dh⟩
  case dhr =>
    intro hn
    refine divideByHalf_open (operandLow_value r2) ?_
    rw [setWidth_setWidth_half, ← BitVec.toNat_inj, regHalf_toNat]
    exact hn
  case dh =>
    rw [← setWidth_signExtend_half h] at hn
    exact divideByHalf_open (operandHalf_value hh) hn

end Sys2Proof.Machine

/-! # Status switching

The PSW and the halfword that is its image (R30, R42); the return from an exception, with and without the entry
to the async timer routine (R331, R333, R337 item 7); UPSW, EPSR and SVC where nothing faults. -/

namespace Sys2Proof.Machine

/-! ## The PSW and its image -/

/-- A bit of a halfword, counted from the left, as a vector of its own. -/
theorem ofBool_getMsbD (h : Half) {k : Nat} (hk : k < 16) :
    BitVec.ofBool (h.getMsbD k) = h.extractLsb' (15 - k) 1 := by
  ext i hi
  obtain rfl : i = 0 := by omega
  simp [BitVec.getMsbD, hk]

/-- The thirteen fields, joined one after another from the left, are the halfword they were taken from. -/
theorem Psw.toBits_ofBits (h : Half) : (Psw.ofBits h).toBits = h := by
  simp only [Psw.toBits, Psw.ofBits, ofBool_getMsbD, Nat.reduceLT, Nat.reduceSub]
  iterate 12 rw [BitVec.extractLsb'_append_extractLsb'_eq_extractLsb' (by decide)]
  exact BitVec.extractLsb'_eq_self

/-- The register set is the four bits to the left of the condition code (R30). -/
theorem Psw.toBits_registerSet (q : Psw) : q.toBits.extractLsb' 4 4 = q.rs := by
  rw [Psw.toBits]
  iterate 4 rw [BitVec.extractLsb'_append_eq_of_le (by decide)]
  rw [BitVec.extractLsb'_append_eq_of_add_le (by decide)]
  exact BitVec.extractLsb'_eq_self

theorem Psw.ofBits_toBits (q : Psw) : Psw.ofBits q.toBits = q := by
  rw [Psw.ofBits, q.toBits_registerSet]
  simp only [Psw.toBits, BitVec.getMsbD_append]
  simp

/-- The bits of 0x100F are the trace bit and the condition code (R332). -/
theorem Psw.ofBits_masked (q : Psw) (h : Half) :
    Psw.ofBits ((q.toBits &&& 0xEFF0#16) ||| (h &&& 0x100F#16)) =
      { q with t := (Psw.ofBits h).t, c := (Psw.ofBits h).c, v := (Psw.ofBits h).v, g := (Psw.ofBits h).g,
               l := (Psw.ofBits h).l } := by
  have whole (x : Nib) : x &&& 15#4 = x := BitVec.and_allOnes
  calc
    _ = { Psw.ofBits q.toBits with
          t := (Psw.ofBits h).t, c := (Psw.ofBits h).c, v := (Psw.ofBits h).v, g := (Psw.ofBits h).g,
          l := (Psw.ofBits h).l } := by
      simp [Psw.ofBits, BitVec.extractLsb'_or, BitVec.extractLsb'_and, whole]
    _ = _ := by rw [Psw.ofBits_toBits]

/-- The image of a loaded PSW is the right half of the word it was loaded from (R42). -/
theorem Psw.image_ofImage (w : Word) : (Psw.ofImage w).image = (w.setWidth 16 : Half).setWidth 32 := by
  rw [Psw.image, Psw.ofImage, Psw.toBits_ofBits]

/-- When the word of a PSW selects register set F. -/
theorem Psw.ofImage_selects_setF (w : Word) : (Psw.ofImage w).rs = 15#4 ↔ w.toNat / 16 % 16 = 15 := by
  rw [← BitVec.toNat_inj]
  simp only [Psw.ofImage, Psw.ofBits, BitVec.extractLsb'_toNat, BitVec.toNat_setWidth,
    Nat.shiftRight_eq_div_pow, BitVec.toNat_ofNat]
  omega

/-- The location in an even word is even (R26). -/
theorem pcOfImage_even {w : Word} (even : w.getLsbD 0 = false) : (pcOfImage w).getLsbD 0 = false := by
  simpa [pcOfImage] using even

/-! ## The return from an exception -/

theorem privileged_permitted {meaning : State → Out} {s : State} (h : s.psw.p = false) :
    privileged meaning s = meaning s :=
  if_neg (Bool.eq_false_iff.1 h)

section Load

variable {s : State} {r1 r2 : Reg} {rx : RxAddr} {w0 w1 : Word}

theorem readPswAndPc_value (h0 : s.dataFull (s.effAddr rx) = some w0)
    (h1 : s.dataFull (s.effAddr rx + 4#32) = some w1) :
    readPswAndPc (s.begin.effAddr rx) s.begin = .ok (w0, w1) s.begin :=
  Res.bind_eq_ok.2 ⟨w0, s.begin, readFull_value rfl h0,
    Res.bind_eq_ok.2 ⟨w1, s.begin, readFull_value rfl h1, rfl⟩⟩

/-- LPSW is the return with the words of its operand. -/
theorem exec_lpsw_permitted (permitted : s.psw.p = false) (h0 : s.dataFull (s.effAddr rx) = some w0)
    (h1 : s.dataFull (s.effAddr rx + 4#32) = some w1) :
    exec (.lpsw r1 rx) s = finish s.pc (loadPswAndPc w0 w1 s.begin) := by
  rw [exec_lpsw, execLpsw, privileged_permitted permitted, transfer, readPswAndPc_value h0 h1, Res.bind_ok]

/-- LPSWR is the return with the words of two registers. -/
theorem exec_lpswr_permitted (permitted : s.psw.p = false) (h0 : s.reg r2 = w0) (h1 : s.reg r1 = w1) :
    exec (.lpswr r1 r2) s = finish s.pc (loadPswAndPc w0 w1 s.begin) := by
  rw [exec_lpswr, execLpswr, privileged_permitted permitted, ← h0, ← h1]
  rfl

/-- The state in which the PSW and the location of two words are in force. -/
def State.restored (s : State) (w0 w1 : Word) : State :=
  (s.begin.setPsw (Psw.ofImage w0)).setPc (pcOfImage w1)

/-- Is the async timer routine entered with the PSW of a word (R337 item 7, R480)? -/
def State.EntersTimer (s : State) (w0 : Word) : Prop :=
  s.params.enhancedAsync = true ∧ w0.toNat / 16 % 16 = 15 ∧ (s.regIn 13#4 14#4).msb = true

theorem restored_timerDue (s : State) (w0 w1 : Word) :
    ((s.restored w0 w1).params.enhancedAsync && (s.restored w0 w1).timerDue &&
      !(s.restored w0 w1).pend.mac) = true ↔ s.EntersTimer w0 := by
  have clear : (s.restored w0 w1).pend.mac = false := rfl
  rw [clear, Bool.not_false, Bool.and_true, Bool.and_eq_true, State.timerDue, Bool.and_eq_true, beq_iff_eq]
  exact and_congr Iff.rfl (and_congr (Psw.ofImage_selects_setF w0) Iff.rfl)

/-- The return at the start of an instruction, by whether the timer is due once PSW and location are loaded. -/
theorem loadPswAndPc_begin (even : w1.getLsbD 0 = false) :
    loadPswAndPc w0 w1 s.begin =
      if (s.restored w0 w1).params.enhancedAsync && (s.restored w0 w1).timerDue &&
          !(s.restored w0 w1).pend.mac then enterTimer (s.restored w0 w1)
      else .ok () (s.restored w0 w1) := by
  rw [loadPswAndPc, State.loadPsw_untainted _ _ rfl, loadPc_value (by rfl) (pcOfImage_even even), Res.bind_ok]
  rfl

/-- The return to the interrupted program (R331, R333). -/
theorem finish_loadPswAndPc_returns (even : w1.getLsbD 0 = false) (idle : ¬s.EntersTimer w0) :
    finish s.pc (loadPswAndPc w0 w1 s.begin) = .next (s.restored w0 w1) := by
  rw [loadPswAndPc_begin even, if_neg (mt (restored_timerDue s w0 w1).1 idle)]
  exact finish_ok rfl

/-- The state in which the timer routine begins, in set D: the PSW and location that were to be restored are in
its registers 0 and 1 (R480). -/
def State.timerEntered (s : State) (w0 w1 : Word) : State :=
  (((s.begin.setRegIn 13#4 0#4 ((w0.setWidth 16 : Half).setWidth 32)).setRegIn 13#4 1#4
    ((w1.setWidth 20 : Addr).setWidth 32)).setPsw
    { Psw.ofBits (w0.setWidth 16) with rs := 13#4 }).setPc ((s.regIn 13#4 15#4).setWidth 20)

/-- The return that enters the timer routine instead (R337 item 7, R480). -/
theorem finish_loadPswAndPc_timer (even : w1.getLsbD 0 = false) (due : s.EntersTimer w0)
    (evenRoutine : (s.regIn 13#4 15#4).getLsbD 0 = false) :
    finish s.pc (loadPswAndPc w0 w1 s.begin) = .next (s.timerEntered w0 w1) := by
  have saved : (s.restored w0 w1).psw.image = (w0.setWidth 16 : Half).setWidth 32 := Psw.image_ofImage w0
  rw [loadPswAndPc_begin even, if_pos ((restored_timerDue s w0 w1).2 due),
    enterTimer_value (u := s.restored w0 w1) evenRoutine, saved]
  exact finish_ok rfl

end Load

/-- Settles O48: LPSW and LPSWR are one return, with the words from memory or from registers. -/
theorem loadStatus : Obligations.LoadStatus := by
  intro s r1 r2 rx w0 w1 permitted even idle
  have returns := finish_loadPswAndPc_returns (s := s) (w0 := w0) even idle
  exact ⟨fun h0 h1 => (exec_lpsw_permitted permitted h0 h1).trans returns,
    fun h0 h1 => (exec_lpswr_permitted permitted h0 h1).trans returns⟩

/-- Settles O49: the same return, where the timer is due. -/
theorem timerRoutine : Obligations.TimerRoutine := by
  intro s r1 r2 rx w0 w1 permitted enhanced setF negative even evenRoutine
  have enters := finish_loadPswAndPc_timer even ⟨enhanced, setF, negative⟩ evenRoutine
  exact ⟨fun h0 h1 => (exec_lpswr_permitted permitted h0 h1).trans enters,
    fun h0 h1 => (exec_lpsw_permitted permitted h0 h1).trans enters⟩

/-! ## UPSW and EPSR -/

/-- Settles O50: the trace bit and the condition code are the bits of 0x100F. -/
theorem userLoadStatus : Obligations.UserLoadStatus := by
  intro s r1 rx w0 w1 h0 h1 even
  rw [exec_upsw, execUpsw, Psw.ofBits_masked]
  refine transfer_ok ?_ rfl
  rw [readPswAndPc_value h0 h1, Res.bind_ok]
  dsimp only
  rw [State.writeTrace_untainted rfl, State.writeFlags_untainted _ _ (by rfl),
    loadPc_value (by rfl) (pcOfImage_even even)]
  rfl

/-- Settles O51: by the privilege check, then by whether the two registers are one. -/
theorem exchangeStatus : Obligations.ExchangeStatus := by
  intro s r1 r2
  refine ⟨fun user => takesIllegal_of (privileged_illegal user), fun permitted different => ?exchanged,
    fun permitted => ?readOnly⟩
  case exchanged =>
    rw [exec_epsr, execEpsr, privileged_permitted permitted]
    refine sequential_ok (u := (s.begin.setReg r1 s.psw.image).setPsw (Psw.ofImage (s.reg r2))) ?_ rfl
    rw [if_neg different, State.writeReg_untainted _ _ _ rfl, State.loadPsw_untainted _ _ (by rfl)]
    rfl
  case readOnly =>
    rw [exec_epsr, execEpsr, privileged_permitted permitted]
    refine sequential_ok (u := s.begin.setReg r1 s.psw.image) ?_ rfl
    rw [if_pos rfl, State.writeReg_untainted _ _ _ rfl]
    rfl

/-! ## SVC -/

/-- The routine addresses are halfwords from 0x9C on (R336). -/
theorem svcEntry_eq (k : Nib) : svcEntry k = BitVec.ofNat 20 (0x9C + 2 * k.toNat) := by
  apply BitVec.eq_of_toNat_eq
  have := k.isLt
  simp only [svcEntry, BitVec.toNat_add, BitVec.toNat_mul, BitVec.toNat_setWidth, BitVec.toNat_ofNat]
  omega

/-- The low 24 bits of an address. -/
theorem low24_eq (w : Word) : w &&& 0xFFFFFF#32 = BitVec.ofNat 32 (w.toNat % 2 ^ 24) := by
  apply BitVec.eq_of_toNat_eq
  rw [BitVec.toNat_and, show (0xFFFFFF#32 : Word).toNat = 2 ^ 24 - 1 from rfl, Nat.and_two_pow_sub_one_eq_mod,
    BitVec.toNat_ofNat]
  omega

/-- Settles O52: the new PSW and the routine's address are read, then the three registers written. -/
theorem supervisorCall : Obligations.SupervisorCall := by
  intro s k rx newPsw entry hpsw hentry even
  have evenTarget : (entry.setWidth 20 : Addr).getLsbD 0 = false := by simpa using even
  rw [← svcEntry_eq] at hentry
  rw [exec_svc, execSvc, ← low24_eq, ← pcImage_eq]
  refine transfer_ok ?_ rfl
  rw [absReadFull_value (s := s.begin) hpsw, Res.bind_ok, absReadHalf_of_absHalf (s := s.begin) hentry,
    Res.bind_ok]
  exact enterAt_eq_ok.2 ⟨evenTarget, rfl⟩

end Sys2Proof.Machine

/-! # Device input and output

A privileged instruction puts one operation on the multiplexor bus and goes by the answer to it: SSR and RDR load
x[R2] and the condition code from it, the four outputs leave in V whether the device timed out (R350, R352 to
R359). -/

namespace Sys2Proof.Machine

/-! ## The bus -/

/-- The answer the next operation on the bus gets: the environment's next one, timeout when it gives none (R360,
log 21). -/
def State.nextAnswer (s : State) : BusAnswer := s.busIn.head?.getD .timeout

/-- The state in which an instruction has put one operation on the bus and has done nothing else (R350). -/
def State.onBus (s : State) (op : BusOp) : State :=
  { s.begin with busIn := s.busIn.tail, busOut := op :: s.busOut }

theorem busTransact_begin (op : BusOp) (s : State) : busTransact op s.begin = (s.nextAnswer, s.onBus op) := rfl

section Answers

variable {s : State} {d : Half} {rest : List BusAnswer}

theorem nextAnswer_data (h : s.busIn = .data d :: rest) : s.nextAnswer = .data d := by
  rw [State.nextAnswer, h]
  rfl

theorem nextAnswer_timeout (h : s.busIn = .timeout :: rest ∨ s.busIn = []) : s.nextAnswer = .timeout := by
  rcases h with h | h <;> rw [State.nextAnswer, h] <;> rfl

/-- The device responds exactly where the environment's next answer is a response. -/
theorem nextAnswer_ne_timeout_iff : s.nextAnswer ≠ .timeout ↔ ∃ d rest, s.busIn = .data d :: rest := by
  constructor
  · intro responds
    match h : s.busIn with
    | [] => exact absurd (nextAnswer_timeout (rest := []) (.inr h)) responds
    | .timeout :: rest => exact absurd (nextAnswer_timeout (.inl h)) responds
    | .data d :: rest => exact ⟨d, rest, rfl⟩
  · rintro ⟨d, rest, h⟩
    simp [nextAnswer_data h]

end Answers

/-! ## SSR and RDR (R352, R355) -/

section Input

variable {s : State} {r1 r2 : Reg} {d : Half}

/-- A privileged instruction whose body, without a fault, ends by loading x[R2] and the condition code. -/
theorem privileged_loads {body : State → Res Unit} {u : State} {v : Word} {f : Flags} (permitted : s.psw.p = false)
    (ran : body s.begin = .ok () ((u.writeReg r2 v).writeFlags f)) (clear : u.pend.mac = false) :
    privileged (sequential 2 body) s = .next (((u.setReg r2 v).setFlags f).setPc (nextAddr s.pc 2)) := by
  rw [State.writeReg_untainted _ _ _ clear, State.writeFlags_untainted _ _ (by exact clear)] at ran
  rw [privileged_permitted permitted, sequential_ok ran (by exact clear)]

theorem execSsr_data (permitted : s.psw.p = false) (answer : s.nextAnswer = .data d) :
    execSsr r1 r2 s = .next ((((s.onBus (.sense (s.device r1))).setReg r2 (d.setWidth 32)).setFlags
      (statusFlags d)).setPc (nextAddr s.pc 2)) :=
  privileged_loads permitted (by simp only [busTransact_begin, answer]; rfl) rfl

theorem execSsr_timeout (permitted : s.psw.p = false) (answer : s.nextAnswer = .timeout) :
    execSsr r1 r2 s = .next ((((s.onBus (.sense (s.device r1))).setReg r2 4#32).setFlags
      (ioFlags true)).setPc (nextAddr s.pc 2)) :=
  privileged_loads permitted (by simp only [busTransact_begin, answer]; rfl) rfl

theorem execRdr_data (permitted : s.psw.p = false) (answer : s.nextAnswer = .data d) :
    execRdr r1 r2 s = .next ((((s.onBus (.read (s.device r1))).setReg r2 (d.setWidth 32)).setFlags
      (ioFlags false)).setPc (nextAddr s.pc 2)) :=
  privileged_loads permitted (by simp only [busTransact_begin, answer]; rfl) rfl

/-- The data of a timeout is the next free value (D25). -/
theorem execRdr_timeout (permitted : s.psw.p = false) (answer : s.nextAnswer = .timeout) :
    execRdr r1 r2 s = .next ((((s.onBus (.read (s.device r1))).tick.setReg r2
      ((s.free.setWidth 16 : Half).setWidth 32)).setFlags (ioFlags true)).setPc (nextAddr s.pc 2)) :=
  privileged_loads permitted (by simp only [busTransact_begin, answer]; rfl) rfl

end Input

/-- Settles O55: each instruction by the answer it gets. -/
theorem deviceInput : Obligations.DeviceInput := by
  intro s r1 r2 d rest permitted
  refine ⟨fun responds => ?data, fun silent => ?timeout⟩
  case data =>
    have answer := nextAnswer_data responds
    have left : s.busIn.tail = rest := by rw [responds, List.tail_cons]
    rw [BitVec.ofNat_toNat, ← left]
    exact ⟨execSsr_data permitted answer, execRdr_data permitted answer⟩
  case timeout =>
    have answer := nextAnswer_timeout silent
    refine ⟨execSsr_timeout permitted answer, s.free.setWidth 16, ?_⟩
    rw [BitVec.ofNat_toNat]
    exact execRdr_timeout permitted answer

/-! ## OC, OCR, WD and WDR (R353, R354, R356, R357) -/

/-- Exchanging the bytes of a halfword rotates it by 8 places (R358). -/
theorem swapBytes_eq (h : Half) : swapBytes h = h.rotateLeft 8 := by
  apply BitVec.eq_of_getLsbD_eq
  intro i hi
  rw [swapBytes, BitVec.getLsbD_append, BitVec.getLsbD_rotateLeft]
  by_cases low : i < 8
  · simp [low, hi]
  · have : i - 8 < 8 := by omega
    simp [low, hi, this]

/-- The operand OC and WD send: the bytes are exchanged at an even address (R358). -/
theorem operandIo_value {s : State} {rx : RxAddr} {h : Half} (e : s.dataHalf (s.effAddr rx) = some h) :
    operandIo rx s.begin =
      .ok (if (s.effAddr rx).getLsbD 0 then h else h.rotateLeft 8) s.begin := by
  rw [← swapBytes_eq]
  exact Res.bind_eq_ok.2 ⟨h, s.begin, readHalf_value rfl e, rfl⟩

section Output

variable {s : State} {ok : Bool} (answers : ok = true ↔ ∃ d rest, s.busIn = .data d :: rest)

include answers

/-- V says whether the device timed out (R359). -/
theorem afterOutput_value {u : State} (clear : u.pend.mac = false) :
    afterOutput s.nextAnswer u = u.setFlags { c := false, v := !ok, g := false, l := false } := by
  have timedOut : decide (s.nextAnswer = .timeout) = !ok := by
    rw [← nextAnswer_ne_timeout_iff] at answers
    cases ok <;> simpa using answers
  rw [afterOutput, State.writeFlags_untainted _ _ clear, ioFlags, timedOut]

/-- An output whose operand is delivered without a fault puts it on the bus. -/
theorem output_value {len : Nat} {op : Half → Half → BusOp} {r1 : Reg} {operand : State → Res Half} {h : Half}
    (permitted : s.psw.p = false) (delivered : operand s.begin = .ok h s.begin) :
    output len op r1 operand s =
      .next (((s.onBus (op (s.device r1) h)).setFlags { c := false, v := !ok, g := false, l := false }).setPc
        (nextAddr s.pc len)) := by
  rw [output, privileged_permitted permitted]
  refine sequential_ok ?_ rfl
  rw [delivered, Res.bind_ok, busTransact_begin]
  exact congrArg (Res.ok ()) (afterOutput_value answers rfl)

end Output

/-- Settles O56: the four outputs differ in their operation and in where the operand comes from. -/
theorem deviceOutput : Obligations.DeviceOutput := by
  intro s r1 r2 rx h ok permitted answers
  refine ⟨output_value answers permitted rfl, output_value answers permitted rfl, fun read => ?memory⟩
  have delivered := operandIo_value read
  exact ⟨output_value answers permitted delivered, output_value answers permitted delivered⟩

end Sys2Proof.Machine

/-! # What an operation stores

Where an operation reaches main memory, it changes some bytes of it, draws free values, may write registers, and
leaves everything else as it was. -/

namespace Sys2Proof.Machine

/-- Memory has changed at some places at most; registers may have been written and free values drawn. -/
structure State.StoresAt (places : Nat → Prop) (s t : State) : Prop where
  only : t = { s with regs := t.regs, mem := t.mem, freeIx := t.freeIx }
  outside : ∀ x, ¬places x → t.mem.read x = s.mem.read x

section StoresAt

variable {places : Nat → Prop} {s t u : State}

theorem State.StoresAt.refl (places : Nat → Prop) (s : State) : s.StoresAt places s := ⟨rfl, fun _ _ => rfl⟩

theorem State.StoresAt.trans (h : s.StoresAt places t) (k : t.StoresAt places u) : s.StoresAt places u :=
  ⟨by rw [k.only, h.only], fun x hx => (k.outside x hx).trans (h.outside x hx)⟩

theorem State.StoresAt.tick (places : Nat → Prop) (s : State) : s.StoresAt places s.tick :=
  ⟨rfl, fun _ _ => rfl⟩

theorem State.StoresAt.pend (h : s.StoresAt places t) : t.pend = s.pend := by rw [h.only]
theorem State.StoresAt.psw (h : s.StoresAt places t) : t.psw = s.psw := by rw [h.only]
theorem State.StoresAt.pc (h : s.StoresAt places t) : t.pc = s.pc := by rw [h.only]
theorem State.StoresAt.params (h : s.StoresAt places t) : t.params = s.params := by rw [h.only]

/-- A halfword stored at places that are among them. -/
theorem State.StoresAt.setHalf {pa : Addr} (left : places (evenBase pa)) (right : places (evenBase pa + 1))
    (v : Half) : s.StoresAt places (s.setMem (s.mem.setHalf pa v)) :=
  ⟨rfl, fun _ hx => Memory.read_setHalf_other (fun e => hx (e ▸ left)) fun e => hx (e ▸ right)⟩

/-- A halfword whose bytes are elsewhere stays. -/
theorem State.StoresAt.half (h : s.StoresAt places t) {a : Addr} (left : ¬places (evenBase a))
    (right : ¬places (evenBase a + 1)) : t.mem.half a = s.mem.half a := by
  rw [Memory.half, Memory.half, h.outside _ left, h.outside _ right]

/-- An operand that translates elsewhere reads as before. -/
theorem State.StoresAt.dataHalf (h : s.StoresAt places t) {ea : Word} {pa : Addr}
    (place : translate .read (evenAddr (programAddr ea)) s = .ok pa) (left : ¬places (evenBase pa))
    (right : ¬places (evenBase pa + 1)) : t.dataHalf ea = s.dataHalf ea := by
  refine Eq.trans ?_ (dataHalf_setMem (m := t.mem) place (h.half left right))
  rw [h.only]
  rfl

end StoresAt

/-- Unspecified halfwords stored in main memory change it at their places alone. -/
theorem writeFreeHalves_plain {places : Nat → Prop} {l : List Word} {s : State} (hm : s.pend.mac = false)
    (h : ∀ ea ∈ l, ∃ pa, s.StoresTo ea pa ∧ places (evenBase pa) ∧ places (evenBase pa + 1)) :
    ∃ t, writeFreeHalves l s = .ok () t ∧ s.StoresAt places t := by
  induction l generalizing s with
  | nil => exact ⟨s, rfl, .refl _ s⟩
  | cons ea rest ih =>
    rw [List.forall_mem_cons] at h
    obtain ⟨⟨pa, reaches, left, right⟩, others⟩ := h
    obtain ⟨t, done, stored⟩ := ih (s := s.tick.setMem (s.mem.setHalf pa (s.free.setWidth 16))) hm others
    refine ⟨t, ?_, ((State.StoresAt.tick places s).trans (.setHalf left right _)).trans stored⟩
    rw [writeFreeHalves, writeHalf_plain (s := s.tick) hm reaches, Res.bind_ok]
    exact done

/-- The halfwords at addresses that can be read. -/
theorem readHalves_value {n : Nat} {f : Nat → Word} {h : Nat → Half} {s : State} (hm : s.pend.mac = false)
    (readable : ∀ k, k < n → s.dataHalf (f k) = some (h k)) :
    readHalves ((List.range n).map f) s = .ok ((List.range n).map h) s := by
  induction n generalizing f h with
  | zero => rfl
  | succ n ih =>
    have rest := ih (f := f ∘ Nat.succ) (h := h ∘ Nat.succ) fun k hk => readable (k + 1) (by omega)
    simp only [List.range_succ_eq_map, List.map_cons, List.map_map]
    rw [readHalves, readHalf_value hm (readable 0 (by omega)), Res.bind_ok, rest, Res.bind_ok]

end Sys2Proof.Machine

/-! # The sync instructions

SCAN by the entries its search looks at, ALIGN by the halfwords it stores, CKSUM by its portion (R381 to R383). -/

namespace Sys2Proof.Machine

/-! ## The input ring (R381) -/

/-- How far the trailing pointer is behind, by the low bytes of the pointers. -/
theorem ringDistance_eq (lead trail : Word) :
    ringDistance lead trail = (lead.toNat + 256 - trail.toNat % 256) % 256 := by
  have := trail.isLt
  rw [ringDistance, BitVec.toNat_setWidth, BitVec.toNat_sub]
  omega

/-- The bytes of an entry of the ring, whose unit is open (log 33). -/
def entryBytes (halves : Bool) : Nat := if halves then 2 else 1

theorem entryBytes_pos (halves : Bool) : 0 < entryBytes halves := by cases halves <;> decide

/-- The entry of the ring at an index. -/
def ringEntry (ring : Word) (index : Nat) : Word := ring + BitVec.ofNat 32 (index % 256)

theorem ringEntry_eq (ring trail : Word) :
    ring + ((trail.setWidth 8 : Byte).setWidth 32) = ringEntry ring trail.toNat := by
  rw [ringEntry, ← BitVec.ofNat_toNat 32 (trail.setWidth 8 : Byte), BitVec.toNat_setWidth]

/-- The entry at every index can be read, and is marking where `marking` says so. -/
def State.RingReads (s : State) (halves : Bool) (ring : Word) (marking : Nat → Prop) : Prop :=
  ∀ index, if halves then ∃ h, s.dataHalf (ringEntry ring index) = some h ∧ (h = 0xFFFF#16 ↔ marking (index % 256))
    else ∃ b, s.dataByte (ringEntry ring index) = some b ∧ (b = 0xFF#8 ↔ marking (index % 256))

section Scan

variable {s : State} {halves : Bool} {ring lead : Word} {marking : Nat → Prop} (hm : s.pend.mac = false)
  (reads : s.RingReads halves ring marking)

include hm reads

/-- The search goes on past an entry that is marking. -/
theorem scanRing_marking {n : Nat} {trail : Word} (far : ¬ringDistance lead trail < 16)
    (h : marking (trail.toNat % 256)) :
    scanRing halves ring lead (n + 1) trail s =
      scanRing halves ring lead n (trail + BitVec.ofNat 32 (entryBytes halves)) s := by
  have entry := reads trail.toNat
  rw [scanRing, if_neg far, ringEntry_eq]
  cases halves with
  | true =>
    obtain ⟨v, read, mark⟩ := entry
    rw [if_pos rfl, readHalf_value hm read, Res.bind_ok, if_pos (mark.2 h)]
    rfl
  | false =>
    obtain ⟨v, read, mark⟩ := entry
    rw [if_neg Bool.false_ne_true, readByte_value hm read, Res.bind_ok, if_pos (mark.2 h)]
    rfl

/-- It ends at an entry that is not. -/
theorem scanRing_data {n : Nat} {trail : Word} (far : ¬ringDistance lead trail < 16)
    (h : ¬marking (trail.toNat % 256)) : scanRing halves ring lead (n + 1) trail s = .ok true s := by
  have entry := reads trail.toNat
  rw [scanRing, if_neg far, ringEntry_eq]
  cases halves with
  | true =>
    obtain ⟨v, read, mark⟩ := entry
    rw [if_pos rfl, readHalf_value hm read, Res.bind_ok, if_neg fun e => h (mark.1 e)]
  | false =>
    obtain ⟨v, read, mark⟩ := entry
    rw [if_neg Bool.false_ne_true, readByte_value hm read, Res.bind_ok, if_neg fun e => h (mark.1 e)]

/-- The search finds data if one of its entries, each at least 0x10 bytes behind, is not marking. -/
theorem scanRing_value (n : Nat) (trail : Word) :
    ∃ hit, scanRing halves ring lead n trail s = .ok hit s ∧
      (hit = true ↔ ∃ i, i < n ∧ 16 + entryBytes halves * i ≤ ringDistance lead trail ∧
        ¬marking ((trail.toNat + entryBytes halves * i) % 256)) := by
  have unit : entryBytes halves ≤ 2 := by cases halves <;> decide
  induction n generalizing trail with
  | zero => exact ⟨false, rfl, by simp⟩
  | succ n ih =>
    by_cases far : ringDistance lead trail < 16
    · refine ⟨false, by rw [scanRing, if_pos far], iff_of_false Bool.false_ne_true ?_⟩
      rintro ⟨i, -, hi, -⟩
      omega
    by_cases mark : marking (trail.toNat % 256)
    · have index (i : Nat) : ((trail + BitVec.ofNat 32 (entryBytes halves)).toNat + entryBytes halves * i) % 256 =
          (trail.toNat + entryBytes halves * (i + 1)) % 256 := by
        rw [BitVec.toNat_add, BitVec.toNat_ofNat, Nat.mul_succ]
        omega
      have nearer : ringDistance lead (trail + BitVec.ofNat 32 (entryBytes halves)) + entryBytes halves =
          ringDistance lead trail := by
        rw [ringDistance_eq] at far ⊢
        rw [ringDistance_eq, BitVec.toNat_add, BitVec.toNat_ofNat]
        omega
      obtain ⟨hit, done, found⟩ := ih (trail + BitVec.ofNat 32 (entryBytes halves))
      refine ⟨hit, (scanRing_marking hm reads far mark).trans done, found.trans ?_⟩
      constructor
      · rintro ⟨i, hi, hd, data⟩
        exact ⟨i + 1, by omega, by rw [Nat.mul_succ]; omega, by rwa [← index]⟩
      · rintro ⟨i, hi, hd, data⟩
        cases i with
        | zero => exact absurd mark data
        | succ i => exact ⟨i, by omega, by rw [Nat.mul_succ] at hd; omega, by rwa [index]⟩
    · refine ⟨true, scanRing_data hm reads far mark, iff_of_true rfl ⟨0, by omega, by omega, ?_⟩⟩
      simpa using mark

end Scan

/-- A halfword is marking where both its bytes are. -/
theorem half_marking_iff (h : Half) :
    h = 0xFFFF#16 ↔ h.extractLsb' 8 8 = 0xFF#8 ∧ (h.setWidth 8 : Byte) = 0xFF#8 := by
  constructor
  · rintro rfl
    exact ⟨rfl, rfl⟩
  · rintro ⟨left, right⟩
    rw [← bytes_of_half h, left, right]
    rfl

/-- Is the entry at an index marking, in a ring of the bytes `b`? -/
def entryMarking (halves : Bool) (b : Nat → Byte) (index : Nat) : Prop :=
  if halves then b (2 * (index / 2)) = 0xFF#8 ∧ b (2 * (index / 2) + 1) = 0xFF#8 else b index = 0xFF#8

theorem entryMarking_of_all {halves : Bool} {b : Nat → Byte} (all : ∀ k, k < 256 → b k = 0xFF#8) {index : Nat}
    (lt : index < 256) : entryMarking halves b index := by
  cases halves with
  | true => exact ⟨all _ (by omega), all _ (by omega)⟩
  | false => exact all _ lt

/-- The halfword at an even address, by its two bytes. -/
theorem dataHalf_of_bytes {s : State} {ring : Word} {i : Nat} {b c : Byte} (even : ring.getLsbD 0 = false)
    (left : s.dataByte (ring + BitVec.ofNat 32 (2 * i)) = some b)
    (right : s.dataByte (ring + BitVec.ofNat 32 (2 * i + 1)) = some c) :
    ∃ h, s.dataHalf (ring + BitVec.ofNat 32 (2 * i)) = some h ∧
      s.dataHalf (ring + BitVec.ofNat 32 (2 * i + 1)) = some h ∧ h.extractLsb' 8 8 = b ∧ h.setWidth 8 = c := by
  have low : ring.toNat % 2 = 0 := by simpa [BitVec.getLsbD, Nat.testBit_zero] using even
  have same : s.dataHalf (ring + BitVec.ofNat 32 (2 * i + 1)) = s.dataHalf (ring + BitVec.ofNat 32 (2 * i)) := by
    have place : evenAddr (programAddr (ring + BitVec.ofNat 32 (2 * i + 1))) =
        evenAddr (programAddr (ring + BitVec.ofNat 32 (2 * i))) := by
      rw [evenAddr_eq_iff, programAddr, programAddr, BitVec.toNat_setWidth, BitVec.toNat_setWidth,
        BitVec.toNat_add, BitVec.toNat_add, BitVec.toNat_ofNat, BitVec.toNat_ofNat]
      omega
    rw [State.dataHalf, State.halfAt, place, State.dataHalf, State.halfAt]
  have side (k : Nat) : (programAddr (ring + BitVec.ofNat 32 k)).getLsbD 0 = decide (k % 2 = 1) := by
    rw [programAddr_bit, BitVec.getLsbD, Nat.testBit_zero, decide_eq_decide, BitVec.toNat_add, BitVec.toNat_ofNat]
    omega
  obtain ⟨h, read, value⟩ := Option.map_eq_some_iff.1 left
  rw [State.dataByte, same, read, Option.map_some, Option.some.injEq] at right
  refine ⟨h, read, same.trans read, ?_, ?_⟩
  · rw [← value, byteAt, side, if_neg (by simp)]
  · rw [← right, byteAt, side, if_pos (by simp [Nat.add_mod])]

theorem ringReads_of_bytes {s : State} {ring : Word} {b : Nat → Byte} (even : ring.getLsbD 0 = false)
    (bytes : ∀ k : Nat, k < 256 → s.dataByte (ring + BitVec.ofNat 32 k) = some (b k)) (halves : Bool) :
    s.RingReads halves ring (entryMarking halves b) := by
  intro index
  have lt : index % 256 < 256 := Nat.mod_lt _ (by decide)
  cases halves with
  | false => exact ⟨b (index % 256), bytes _ lt, .rfl⟩
  | true =>
    obtain ⟨h, left, right, hl, hr⟩ := dataHalf_of_bytes (i := index % 256 / 2) even (bytes _ (by omega))
      (bytes _ (by omega))
    refine ⟨h, ?_, by rw [half_marking_iff, hl, hr]; rfl⟩
    rcases Nat.mod_two_eq_zero_or_one (index % 256) with even | odd
    · have e : index % 256 = 2 * (index % 256 / 2) := by omega
      rwa [ringEntry, e]
    · have e : index % 256 = 2 * (index % 256 / 2) + 1 := by omega
      rwa [ringEntry, e]

/-- Data in a byte that is far enough behind are in an entry of the search. -/
theorem entry_of_byte {halves : Bool} {b : Nat → Byte} {behind trail j : Nat}
    (far : j = 0 ∧ 16 ≤ behind ∨ j + 17 ≤ behind) (data : b ((trail + j) % 256) ≠ 0xFF#8) :
    ∃ i, 16 + entryBytes halves * i ≤ behind ∧
      ¬entryMarking halves b ((trail + entryBytes halves * i) % 256) := by
  cases halves with
  | false => exact ⟨j, by simp [entryBytes]; omega, by simpa [entryBytes, entryMarking] using data⟩
  | true =>
    refine ⟨(j + trail % 2) / 2, by simp [entryBytes]; omega, fun mark => data ?_⟩
    simp only [entryMarking, entryBytes, if_true] at mark
    have place : (trail + j) % 256 = 2 * ((trail + 2 * ((j + trail % 2) / 2)) % 256 / 2) ∨
        (trail + j) % 256 = 2 * ((trail + 2 * ((j + trail % 2) / 2)) % 256 / 2) + 1 := by omega
    rcases place with e | e <;> rw [e]
    · exact mark.1
    · exact mark.2

/-- SCAN by what its search finds. -/
theorem execScan_value {s : State} {r1 r2 : Reg} {hit : Bool} (hl : s.params.microcode ≠ .belowS15)
    (h : scanRing s.begin.freeBit (s.reg r2) (s.reg r1) 256 (s.reg (r1 + 1#4)) s.begin.tick =
      .ok hit s.begin.tick) :
    ∃ t, execScan r1 r2 s = .next t ∧ t.pc = nextAddr s.pc (if hit then 2 else 4) ∧ s.OnlyRegs t [r1 + 1#4] := by
  refine ⟨(((s.begin.tick.freeReg (r1 + 1#4)).freeCc).setPc (nextAddr s.pc (if hit then 2 else 4))), ?_, rfl, ?_⟩
  · rw [execScan, sinceS15_value hl]
    exact transfer_ok (Res.bind_eq_ok.2 ⟨hit, _, h, rfl⟩) rfl
  · exact ((((State.Wrote.refl _ s.begin).tick.freeReg (by simp)).tick.setFlags _)).onlyRegs _

/-! ## ALIGN (R382) -/

section Wrote

variable {ds : List Reg} {s t : State} (h : s.Wrote ds t)

include h

theorem State.Wrote.mem : t.mem = s.mem := by rw [h.1]
theorem State.Wrote.params : t.params = s.params := by rw [h.1]
theorem State.Wrote.relocation : t.psw.rp = s.psw.rp := by rw [h.1]

end Wrote

theorem State.Wrote.freeEach {ds l : List Reg} {s t : State} (h : s.Wrote ds t) (hl : l ⊆ ds) :
    s.Wrote ds (l.foldl State.freeReg t) := by
  induction l generalizing t with
  | nil => exact h
  | cons r l ih => exact ih (h.freeReg (hl List.mem_cons_self)) fun _ hx => hl (List.mem_cons_of_mem _ hx)

/-- What a body that stores nothing leaves open, with relocation off. -/
theorem undescribedRead_wrote {s : State} (hp : s.psw.rp = false) (rs : List Reg) :
    s.Wrote rs (s.undescribedRead rs) := by
  have calm : s.mayFault = s.tick := by simp [State.mayFault, hp]
  rw [State.undescribedRead, calm]
  exact ((State.Wrote.refl rs s).tick.freeEach (List.Subset.refl _)).tick.setFlags _

theorem execAlign_value {s u : State} {r1 r2 : Reg} (hl : s.params.microcode ≠ .belowS15)
    (h : (if (s.reg 8#4).msb then .ok () s.begin
      else writeFreeHalves ((List.range (s.reg 1#4).toNat).map fun k => s.reg 8#4 + BitVec.ofNat 32 (2 * k))
        s.begin) = .ok () u) (hp : u.psw.rp = false) (hm : u.pend.mac = false) :
    ∃ t, execAlign r1 r2 s = .next t ∧ t.pc = nextAddr s.pc 2 ∧ t.mem = u.mem := by
  have wrote := undescribedRead_wrote hp [1#4, 3#4, 5#4, 7#4, 8#4, 10#4, r1, r2]
  refine ⟨(u.undescribedRead [1#4, 3#4, 5#4, 7#4, 8#4, 10#4, r1, r2]).setPc (nextAddr s.pc 2), ?_,
    State.setPc_pc _ _, ?_⟩
  swap
  · rw [State.setPc_mem, wrote.mem]
  rw [execAlign, sinceS15_value hl]
  exact sequential_ok (Res.bind_eq_ok.2 ⟨(), u, h, rfl⟩) (by rw [wrote.pend, hm])

/-- ALIGN of a sector in main memory: it changes at the places of its halfwords alone. -/
theorem execAlign_sector {s : State} {r1 r2 : Reg} {p : Nat → Addr} (hp : s.psw.rp = false)
    (hl : s.params.microcode ≠ .belowS15) (pos : 0 ≤ (s.reg 8#4).toInt)
    (reaches : ∀ k, k < (s.reg 1#4).toNat → s.StoresTo (s.reg 8#4 + BitVec.ofNat 32 (2 * k)) (p k)) :
    ∃ t, execAlign r1 r2 s = .next t ∧ t.pc = nextAddr s.pc 2 ∧
      ∀ x, (∀ k, k < (s.reg 1#4).toNat → Outside x (p k)) → t.mem.read x = s.mem.read x := by
  have sign : ¬(s.reg 8#4).msb = true := by
    rw [BitVec.msb_eq_toInt]
    simpa using pos
  have sector : ∀ ea ∈ (List.range (s.reg 1#4).toNat).map fun k => s.reg 8#4 + BitVec.ofNat 32 (2 * k),
      ∃ pa, s.begin.StoresTo ea pa ∧ (∃ k, k < (s.reg 1#4).toNat ∧ ¬Outside (evenBase pa) (p k)) ∧
        ∃ k, k < (s.reg 1#4).toNat ∧ ¬Outside (evenBase pa + 1) (p k) := by
    simp only [List.mem_map, List.mem_range]
    rintro _ ⟨k, hk, rfl⟩
    exact ⟨p k, reaches k hk, ⟨k, hk, fun out => out.1 rfl⟩, ⟨k, hk, fun out => out.2 rfl⟩⟩
  obtain ⟨u, done, stored⟩ := writeFreeHalves_plain
    (places := fun x => ∃ k, k < (s.reg 1#4).toNat ∧ ¬Outside x (p k)) rfl sector
  obtain ⟨t, ends, goes, mem⟩ := execAlign_value (r1 := r1) (r2 := r2) hl ((if_neg sign).trans done)
    (by rw [stored.psw]; exact hp) (by rw [stored.pend]; rfl)
  refine ⟨t, ends, goes, fun x out => ?_⟩
  rw [mem]
  exact stored.outside x fun ⟨k, hk, inside⟩ => inside (out k hk)

/-! ## CKSUM (R383) -/

theorem getLsbD_zero_of_toInt_even {w : Word} (h : w.toInt % 2 = 0) : w.getLsbD 0 = false := by
  rw [BitVec.getLsbD, Nat.testBit_zero, decide_eq_false_iff_not]
  have := BitVec.toInt_eq_toNat_bmod w
  rw [Int.bmod_def] at this
  split at this <;> omega

section Cksum

variable {s : State} {r1 r2 : Reg} {bytes n : Nat}
  (readable : ∀ k : Nat, k < n → ∃ h, s.dataHalf (s.reg r2 + BitVec.ofNat 32 (2 * k)) = some h)

include readable

theorem readHalves_readable (hn : (bytes + 1) / 2 ≤ n) :
    ∃ hs, readHalves (halvesFrom (s.reg r2) bytes) s.begin = .ok hs s.begin := by
  choose! h hh using readable
  exact ⟨_, readHalves_value (s := s.begin) rfl fun k hk => hh k (by omega)⟩

variable (legal : cksumLegal s.params.microcode (s.reg 0#4) = true)
  (chunk : cksumChunk s.params.microcode (s.reg 0#4) = bytes) (hn : (bytes + 1) / 2 ≤ n)

include legal chunk hn

/-- CKSUM below S.18 ends at once. -/
theorem execCksum_s15 (hl : s.params.microcode = .s15) :
    execCksum r1 r2 s =
      .next (((((s.begin.setPc (nextAddr s.pc 2)).freeReg r1).freeReg (nextReg r1)).freeCc)) := by
  obtain ⟨hs, read⟩ := readHalves_readable readable hn
  rw [execCksum, if_pos legal]
  refine transfer_ok (Res.bind_eq_ok.2 ⟨hs, s.begin, ?_, ?_⟩) rfl
  · rw [← chunk] at read
    exact read
  · rw [State.begin_params, hl]
    rfl

/-- CKSUM at S.18 advances by its portion. -/
theorem execCksum_s18 (hl : s.params.microcode = .s18) :
    execCksum r1 r2 s =
      .next ((((s.begin.cksumAdvance r2 bytes).freeReg r1).freeReg (nextReg r1)).freeCc) := by
  obtain ⟨hs, read⟩ := readHalves_readable readable hn
  rw [execCksum, if_pos legal]
  refine transfer_ok (Res.bind_eq_ok.2 ⟨hs, s.begin, ?_, ?_⟩) ?_
  · rw [← chunk] at read
    exact read
  · rw [State.begin_params, hl]
    simp only [← chunk, hl]
    rfl
  · unfold State.cksumAdvance
    dsimp only
    split <;> rfl

end Cksum

/-- A negative count, or 0, is legal at S.18 if it is even (R383). -/
theorem cksumLegal_evenCount {w : Word} (neg : w.toInt ≤ 0) (even : w.toInt % 2 = 0) : cksumLegal .s18 w = true := by
  rw [cksumLegal, getLsbD_zero_of_toInt_even even]
  simpa using neg

/-- The count is exhausted by a portion as long as it is. -/
theorem count_add_eq_zero_iff {w : Word} {n : Nat} (neg : w.toInt ≤ 0) (hn : n < 2 ^ 31) :
    w + BitVec.ofNat 32 n = 0#32 ↔ w.toInt = -n := by
  have := w.isLt
  have value := BitVec.toInt_eq_toNat_bmod w
  rw [Int.bmod_def] at value
  rw [← BitVec.toNat_inj, BitVec.toNat_add, BitVec.toNat_ofNat, BitVec.toNat_ofNat]
  split at value <;> omega

section Portions

variable {s : State} {r1 r2 : Reg}

/-- More than 0x40 bytes at S.18: the instruction stays, its count and address advanced. -/
theorem execCksum_portion (hl : s.params.microcode = .s18) (even : (s.reg 0#4).toInt % 2 = 0)
    (more : (s.reg 0#4).toInt < -0x40) (h20 : r2 ≠ 0#4) (h10 : r1 ≠ 0#4) (h12 : r1 ≠ r2) (hn0 : r1 + 1#4 ≠ 0#4)
    (hn2 : r1 + 1#4 ≠ r2)
    (readable : ∀ k : Nat, k < 0x20 → ∃ h, s.dataHalf (s.reg r2 + BitVec.ofNat 32 (2 * k)) = some h) :
    ∃ t, execCksum r1 r2 s = .next t ∧ t.pc = s.pc ∧ t.mem = s.mem ∧
      t.reg 0#4 = s.reg 0#4 + 0x40#32 ∧ t.reg r2 = s.reg r2 + 0x40#32 := by
  have chunk : cksumChunk s.params.microcode (s.reg 0#4) = 0x40 := by
    rw [hl, cksumChunk]
    omega
  have rest : s.reg 0#4 + 0x40#32 ≠ 0#32 := fun e => by
    have := (count_add_eq_zero_iff (n := 0x40) (by omega) (by decide)).1 e
    omega
  have done := execCksum_s18 (r1 := r1) readable (hl ▸ cksumLegal_evenCount (by omega) even) chunk (by decide) hl
  have advanced : s.begin.cksumAdvance r2 0x40 =
      (s.begin.setReg r2 (s.reg r2 + 0x40#32)).setReg 0#4 (s.reg 0#4 + 0x40#32) := if_neg rest
  rw [advanced] at done
  refine ⟨_, done, rfl, rfl, ?_, ?_⟩
  · exact (State.reg_setReg_other _ _ _ _ hn0.symm).trans
      ((State.reg_setReg_other _ _ _ _ h10.symm).trans (State.reg_setReg_same _ _ _))
  · exact (State.reg_setReg_other _ _ _ _ hn2.symm).trans
      ((State.reg_setReg_other _ _ _ _ h12.symm).trans
        ((State.reg_setReg_other _ _ _ _ h20).trans (State.reg_setReg_same _ _ _)))

/-- The last portion at S.18, perhaps of no bytes. -/
theorem execCksum_last (hl : s.params.microcode = .s18) (even : (s.reg 0#4).toInt % 2 = 0)
    (few : -0x40 ≤ (s.reg 0#4).toInt) (neg : (s.reg 0#4).toInt ≤ 0)
    (readable : ∀ k : Nat, k < 0x20 → ∃ h, s.dataHalf (s.reg r2 + BitVec.ofNat 32 (2 * k)) = some h) :
    ∃ t, execCksum r1 r2 s = .next t ∧ t.pc = nextAddr s.pc 2 ∧ s.OnlyRegs t [r1, r1 + 1#4, r2, 0#4] := by
  obtain ⟨n, hn⟩ := Int.eq_ofNat_of_zero_le (show 0 ≤ -(s.reg 0#4).toInt by omega)
  have chunk : cksumChunk s.params.microcode (s.reg 0#4) = n := by
    rw [hl, cksumChunk]
    omega
  let a : Word := s.reg r2 + BitVec.ofNat 32 n
  let c : Word := s.reg 0#4 + BitVec.ofNat 32 n
  have done := execCksum_s18 (r1 := r1) readable (hl ▸ cksumLegal_evenCount neg even) chunk (by omega) hl
  have advanced : s.begin.cksumAdvance r2 n =
      ((((s.begin.setReg r2 a).setReg 0#4 c).freeReg r2).freeReg 0#4).setPc (nextAddr s.pc 2) :=
    if_pos ((count_add_eq_zero_iff neg (by omega)).2 (by omega))
  rw [advanced] at done
  have wrote := ((State.Wrote.refl [r1, r1 + 1#4, r2, 0#4] s.begin).setReg (r := r2) (by simp) a).setReg
    (r := 0#4) (by simp) c
  have opened := (((wrote.freeReg (r := r2) (by simp)).freeReg (r := 0#4) (by simp)).freeReg (r := r1)
    (by simp)).freeReg (r := nextReg r1) (by simp [nextReg])
  exact ⟨_, done, rfl, (opened.tick.setFlags _).onlyRegs (nextAddr s.pc 2)⟩

/-- Below S.18 at most 0x80 bytes are one portion. -/
theorem execCksum_whole (hl : s.params.microcode = .s15) (few : -0x80 ≤ (s.reg 0#4).toInt)
    (neg : (s.reg 0#4).toInt ≤ 0)
    (readable : ∀ k : Nat, k < 0x40 → ∃ h, s.dataHalf (s.reg r2 + BitVec.ofNat 32 (2 * k)) = some h) :
    ∃ t, execCksum r1 r2 s = .next t ∧ t.pc = nextAddr s.pc 2 ∧ s.OnlyRegs t [r1, r1 + 1#4] := by
  have legal : cksumLegal s.params.microcode (s.reg 0#4) = true := by
    rw [hl, cksumLegal, Bool.and_eq_true, decide_eq_true_eq, decide_eq_true_eq]
    omega
  have chunk : cksumChunk s.params.microcode (s.reg 0#4) = (-(s.reg 0#4).toInt).toNat := by
    rw [hl]
    rfl
  have opened := ((State.Wrote.refl [r1, r1 + 1#4] s.begin).freeReg (r := r1) (by simp)).freeReg
    (r := nextReg r1) (by simp [nextReg])
  exact ⟨_, execCksum_s15 readable legal chunk (by omega) hl, rfl, (opened.tick.setFlags _).onlyRegs (nextAddr s.pc 2)⟩

end Portions

/-- Settles O59: SCAN by `scanRing_value`, ALIGN by `writeFreeHalves_plain`, CKSUM by its portion. -/
theorem syncCompletes : Obligations.SyncCompletes := by
  intro s r1 r2 b p hp hl trail behind count readable
  simp only [exec_scan, exec_align, exec_cksum]
  have distance : ringDistance (s.reg r1) (s.reg (r1 + 1#4)) = behind := ringDistance_eq _ _
  refine ⟨fun near => ?near, fun even bytes => ?scan, fun neg => ?noSector, execAlign_sector hp hl,
    fun h18 even => ⟨execCksum_portion h18 even, execCksum_last h18 even⟩, execCksum_whole⟩
  case near =>
    refine execScan_value (hit := false) hl ?_
    rw [scanRing, if_pos (by rwa [distance])]
  case scan =>
    obtain ⟨hit, search, found⟩ := scanRing_value (s := s.begin.tick) (lead := s.reg r1) rfl
      (ringReads_of_bytes even bytes s.begin.freeBit) 256 (s.reg (r1 + 1#4))
    obtain ⟨t, done, goes, only⟩ := execScan_value hl search
    rw [distance] at found
    refine ⟨t, done, only, ?_, fun all => ?_, fun j far data => ?_⟩
    · cases hit <;> simp [goes]
    · have miss : hit = false := by
        rw [Bool.eq_false_iff, ne_eq, found]
        rintro ⟨i, -, -, mark⟩
        exact mark (entryMarking_of_all all (Nat.mod_lt _ (by decide)))
      rw [goes, miss]
      rfl
    · obtain ⟨i, near, mark⟩ := entry_of_byte (halves := s.begin.freeBit) far (by rwa [Nat.mod_add_mod] at data)
      have lt : i < 256 := by
        have := Nat.le_mul_of_pos_left i (entryBytes_pos s.begin.freeBit)
        omega
      rw [goes, found.2 ⟨i, lt, near, mark⟩]
      rfl
  case noSector =>
    have sign : (s.reg 8#4).msb = true := by
      rw [BitVec.msb_eq_toInt]
      exact decide_eq_true neg
    exact execAlign_value (u := s.begin) hl (if_pos sign) hp rfl

end Sys2Proof.Machine

/-! # Bytes in main memory

A store of one byte to main memory, and what an unrelocated read of a byte or a fullword delivers there (R70,
R71). -/

namespace Sys2Proof.Machine

/-- Memory with the byte at an address replaced, as a store of a byte does it (R71). -/
def Memory.setByte (m : Memory) (a : Addr) (b : Byte) : Memory :=
  m.setHalf (evenAddr a) (withByteAt a (m.half (evenAddr a)) b)

theorem evenBase_evenAddr_toNat (a : Addr) : evenBase (evenAddr a) = 2 * (a.toNat / 2) := evenBase_evenAddr a

/-- The byte a halfword holds for an address is the byte there. -/
theorem byteAt_half (m : Memory) (a : Addr) : byteAt a (m.half (evenAddr a)) = m.read a.toNat := by
  have parity : a.getLsbD 0 = decide (a.toNat % 2 = 1) := by rw [BitVec.getLsbD, Nat.testBit_zero]
  rw [byteAt, parity, Memory.half, evenBase_evenAddr_toNat]
  by_cases odd : a.toNat % 2 = 1
  · have e : 2 * (a.toNat / 2) + 1 = a.toNat := by omega
    rw [if_pos (decide_eq_true odd), BitVec.setWidth_append_eq_right, e]
  · have e : 2 * (a.toNat / 2) = a.toNat := by omega
    rw [if_neg (by simp [odd]), BitVec.extractLsb'_append_eq_left, e]

section SetByte

variable {m : Memory} (hw : m.wf = true)

include hw

theorem Memory.wf_setByte (a : Addr) (b : Byte) : (m.setByte a b).wf = true := Memory.wf_setHalf hw

/-- A byte stored is there, and every other byte stays. -/
theorem Memory.read_setByte (a : Addr) (b : Byte) (x : Nat) :
    (m.setByte a b).read x = if x = a.toNat then b else m.read x := by
  split
  next here =>
    rw [here, ← byteAt_half, Memory.setByte, Memory.half_setHalf_same hw, byteAt_withByteAt]
  next elsewhere =>
    by_cases other : x = evenBase (evenAddr a) ∨ x = evenBase (evenAddr a) + 1
    · have parity : a.getLsbD 0 = decide (a.toNat % 2 = 1) := by rw [BitVec.getLsbD, Nat.testBit_zero]
      rw [evenBase_evenAddr_toNat] at other
      by_cases odd : a.toNat % 2 = 1
      · have e : x = evenBase (evenAddr a) := by rw [evenBase_evenAddr_toNat]; omega
        rw [e, Memory.setByte, Memory.read_setHalf_left hw, withByteAt, parity, if_pos (decide_eq_true odd),
          BitVec.extractLsb'_append_eq_left]
        exact BitVec.extractLsb'_append_eq_left
      · have e : x = evenBase (evenAddr a) + 1 := by rw [evenBase_evenAddr_toNat]; omega
        rw [e, Memory.setByte, Memory.read_setHalf_right hw, withByteAt, parity, if_neg (by simp [odd]),
          BitVec.setWidth_append_eq_right]
        exact BitVec.setWidth_append_eq_right
    · rw [not_or] at other
      exact Memory.read_setHalf_other other.1 other.2

end SetByte

/-- Two even addresses name different bytes. -/
theorem evenBase_ne_of_evenAddr_ne {a b : Addr} (h : evenAddr a ≠ evenAddr b) :
    evenBase (evenAddr a) ≠ evenBase (evenAddr b) := by
  rw [evenBase_evenAddr, evenBase_evenAddr, ← evenAddr_toNat, ← evenAddr_toNat]
  exact fun e => h (BitVec.eq_of_toNat_eq e)

theorem Memory.half_setByte_other {m : Memory} {a x : Addr} (h : evenAddr x ≠ evenAddr a) (b : Byte) :
    (m.setByte a b).half (evenAddr x) = m.half (evenAddr x) :=
  Memory.half_setHalf_other (evenBase_ne_of_evenAddr_ne h)

section Unrelocated

variable {s : State} (hp : s.psw.rp = false) {ea : Word}

include hp

theorem storesTo_unrelocated (plain : isPlain s.params (evenAddr (programAddr ea)) = true) :
    s.StoresTo ea (evenAddr (programAddr ea)) := ⟨translate_unrelocated hp _ _, plain⟩

theorem dataHalf_memory (plain : isPlain s.params (evenAddr (programAddr ea)) = true) :
    s.dataHalf ea = some (s.mem.half (evenAddr (programAddr ea))) := by
  rw [dataHalf_unrelocated hp, absHalf_plain plain]

theorem dataByte_memory (plain : isPlain s.params (evenAddr (programAddr ea)) = true) :
    s.dataByte ea = some (s.mem.read (programAddr ea).toNat) := by
  rw [State.dataByte, dataHalf_memory hp plain, Option.map_some, byteAt_half]

theorem writeByte_memory (hm : s.pend.mac = false) (plain : isPlain s.params (evenAddr (programAddr ea)) = true)
    (b : Byte) : writeByte ea b s = .ok () (s.setMem (s.mem.setByte (programAddr ea) b)) :=
  writeByte_plain hm (storesTo_unrelocated hp plain)

theorem writeFull_memory (hm : s.pend.mac = false) (left : isPlain s.params (evenAddr (programAddr ea)) = true)
    (right : isPlain s.params (evenAddr (programAddr ea) + 2#20) = true) (v : Word) :
    writeFull ea v s = .ok () (s.setMem (s.mem.setFull (evenAddr (programAddr ea)) v)) :=
  writeFull_plain hm (storesTo_unrelocated hp left) (translate_unrelocated hp _ _) right v

/-- A fullword stored in main memory is read again. -/
theorem dataFull_setFull {m : Memory} {v : Word} (hw : m.wf = true)
    (hs : s.mem = m.setFull (evenAddr (programAddr ea)) v)
    (left : isPlain s.params (evenAddr (programAddr ea)) = true)
    (right : isPlain s.params (evenAddr (programAddr ea) + 2#20) = true) : s.dataFull ea = some v := by
  generalize he : evenAddr (programAddr ea) = a at *
  have apart : evenBase a ≠ evenBase (a + 2#20) := by
    simp only [evenBase, BitVec.toNat_add, BitVec.toNat_ofNat]
    omega
  have first : s.mem.half a = halfOf false v := by
    rw [hs, Memory.setFull, Memory.half_setHalf_other apart, Memory.half_setHalf_same hw]
  have second : s.mem.half (a + 2#20) = halfOf true v := by rw [hs, Memory.half_setFull_right hw]
  rw [dataFull_unrelocated hp, State.absFull, he, absHalf_plain left, Option.bind_some, absHalf_plain right,
    Option.map_some, first, second, halves_of_word]

end Unrelocated

/-- A fullword stored elsewhere leaves a byte alone. -/
theorem Memory.read_setFull_other {m : Memory} {a x : Addr} (left : evenAddr x ≠ evenAddr a)
    (right : evenAddr x ≠ evenAddr a + 2#20) (v : Word) :
    (m.setFull (evenAddr a) v).read x.toNat = m.read x.toNat := by
  have out {b : Addr} (ne : evenAddr x ≠ evenAddr b) : Outside x.toNat (evenAddr b) := by
    rw [ne_eq, evenAddr_eq_iff] at ne
    rw [Outside, evenBase_evenAddr, evenBase]
    omega
  rw [← evenAddr_add_two] at right
  rw [Memory.setFull, ← evenAddr_add_two, Memory.read_setHalf_outside (out right),
    Memory.read_setHalf_outside (out left)]

end Sys2Proof.Machine

/-! # The bufferlet instructions

GCI, WCI and CBCT by what their in-line data and the pointer of the buffer say (R386 to R388, R395, R396). -/

namespace Sys2Proof.Machine

/-! ## In-line data (R385) -/

/-- The six halfwords after an instruction can be read and are even. -/
structure State.InlineData (s : State) (h : Nat → Half) : Prop where
  pc : s.pc.getLsbD 0 = false
  reads : ∀ k, 1 ≤ k → k ≤ 6 → s.dataHalf (inlineAddr s.pc k) = some (h k)
  even : ∀ k, 1 ≤ k → k ≤ 6 → (h k).getLsbD 0 = false

theorem offsetTarget_even {a : Addr} {h : Half} (ha : a.getLsbD 0 = false) (hh : h.getLsbD 0 = false) :
    (offsetTarget a h).getLsbD 0 = false :=
  add_even ha (by rw [BitVec.getLsbD_signExtend, if_pos (by decide), hh]; rfl)

theorem inlineTarget_value {a : Addr} {k : Nat} {h : Half} {t : State} (hm : t.pend.mac = false)
    (read : t.dataHalf (inlineAddr a k) = some h) : inlineTarget a k t = .ok (offsetTarget a h) t := by
  rw [inlineTarget, readHalf_value hm read, Res.bind_ok]

/-- The fullword of a buffer (R395). -/
theorem bufferWord_eq (quarter : Half) (index : Word) :
    bufferWord quarter index = BitVec.ofNat 32 (4 * quarter.toNat) + index := by
  rw [bufferWord, BitVec.ofNat_mul, BitVec.ofNat_toNat]

theorem bufferletEnd_iff (p : Word) : bufferletEnd p = true ↔ p.toNat % 16 = 0 := by
  rw [bufferletEnd, beq_iff_eq, lowBits_eq_zero_iff]

theorem bufferletEnd_next (q : Word) : bufferletEnd (q + 1#32) = true ↔ (q.toNat + 1) % 16 = 0 := by
  rw [bufferletEnd_iff, BitVec.toNat_add, BitVec.toNat_ofNat]
  omega

/-- A bad index of GCI and WCI: not below 4*NBUF (R386). -/
theorem size_le_iff (size : Half) (index : Word) : (size.setWidth 32 : Word) ≤ index ↔ size.toNat ≤ index.toNat := by
  rw [BitVec.le_def, BitVec.toNat_setWidth, Nat.mod_eq_of_lt (by omega)]

/-- What GCI leaves in the registers once the pointer `p` is stored: the character and the pointer, both open where
x[R1] is register 3 (log 33). -/
def State.delivered (z : State) (r1 : Reg) (b : Byte) (p : Word) : State :=
  let z1 := z.freeReg r1
  let z2 := (z1.writeReg r1 ((z1.reg r1).extractLsb' 8 24 ++ b)).writeReg 3#4 p
  if r1 = 3#4 then (z2.freeReg 3#4).freeCc else z2.freeCc

theorem State.delivered_wrote (z : State) (r1 : Reg) (b : Byte) (p : Word) :
    z.Wrote [r1, 3#4] (z.delivered r1 b p) := by
  have written := (((State.Wrote.refl [r1, 3#4] z).freeReg (r := r1) (by simp)).writeReg (r := r1) (by simp)
    (((z.freeReg r1).reg r1).extractLsb' 8 24 ++ b)).writeReg (r := 3#4) (by simp) p
  unfold State.delivered
  dsimp only
  split
  · exact (written.freeReg (by simp)).tick.setFlags _
  · exact written.tick.setFlags _

theorem State.delivered_regs {z : State} (hm : z.pend.mac = false) {r1 : Reg} (h3 : r1 ≠ 3#4) (b : Byte) (p : Word) :
    (z.delivered r1 b p).reg 3#4 = p ∧ ((z.delivered r1 b p).reg r1).extractLsb' 0 8 = b := by
  have shape : z.delivered r1 b p =
      (((z.freeReg r1).setReg r1 (((z.freeReg r1).reg r1).extractLsb' 8 24 ++ b)).setReg 3#4 p).freeCc := by
    rw [State.delivered, if_neg h3, State.writeReg_untainted (z.freeReg r1) _ _ (by exact hm),
      State.writeReg_untainted _ _ _ (by exact hm)]
  rw [shape]
  refine ⟨State.reg_setReg_same _ _ _, ?_⟩
  refine (congrArg _ ((State.reg_setReg_other _ _ _ _ h3).trans (State.reg_setReg_same _ _ _))).trans ?_
  exact BitVec.extractLsb'_append_eq_right

/-- The character of WCI goes to the pointer or after it, and is left out only at the end of a bufferlet (R387,
R395). -/
theorem wciStore_value {s : State} {q : Word} (hm : s.pend.mac = false) (hw : s.mem.wf = true)
    (hp : s.psw.rp = false) (here : isPlain s.params (evenAddr (programAddr q)) = true)
    (after : isPlain s.params (evenAddr (programAddr (q + 1#32))) = true) (lastFilled : Bool) (b : Byte) :
    ∃ m, wciStore lastFilled q b s = .ok () (s.setMem m) ∧ m.wf = true ∧
      (¬bufferletEnd (q + 1#32) = true →
        m.read (programAddr q).toNat = b ∨ m.read (programAddr (q + 1#32)).toNat = b) := by
  have written (x : Word) : (s.mem.setByte (programAddr x) b).read (programAddr x).toNat = b := by
    rw [Memory.read_setByte hw, if_pos rfl]
  cases lastFilled with
  | false =>
    exact ⟨_, writeByte_memory hp hm here b, Memory.wf_setByte hw _ _, fun _ => .inl (written q)⟩
  | true =>
    rw [wciStore, if_pos rfl]
    by_cases full : bufferletEnd (q + 1#32) = true
    · exact ⟨s.mem, if_pos full, hw, fun room => absurd full room⟩
    · rw [if_neg full]
      exact ⟨_, writeByte_memory hp hm after b, Memory.wf_setByte hw _ _, fun _ => .inr (written _)⟩

section Bufferlets

variable {s : State} {h : Nat → Half} {r1 r2 : Reg} (hl : s.params.microcode ≠ .belowS15) (data : s.InlineData h)

include data

/-- A place that the in-line data name, whatever free values have been drawn. -/
theorem inlineTarget_data {t : State} (k : Nat) (h1 : 1 ≤ k) (h6 : k ≤ 6) (hm : t.pend.mac = false)
    (same : t.dataHalf (inlineAddr s.pc k) = s.dataHalf (inlineAddr s.pc k)) :
    inlineTarget s.pc k t = .ok (s.pc + (h k).signExtend 20) t :=
  inlineTarget_value hm (same.trans (data.reads k h1 h6))

theorem target_even {k : Nat} (h1 : 1 ≤ k) (h6 : k ≤ 6) : (s.pc + (h k).signExtend 20).getLsbD 0 = false :=
  offsetTarget_even data.pc (data.even k h1 h6)

theorem inlineError_value (rs : List Reg) :
    ∃ t, inlineError rs s.begin = .ok () t ∧ t.pc = s.pc + (h 2).signExtend 20 ∧ t.mem = s.mem ∧
      t.pend.mac = false := by
  have wrote := ((State.Wrote.refl rs s.begin).freeEach (List.Subset.refl _)).tick.setFlags
    (rs.foldl State.freeReg s.begin).freeFlags
  refine ⟨((rs.foldl State.freeReg s.begin).freeCc).setPc (s.pc + (h 2).signExtend 20), ?_, State.setPc_pc _ _,
    ?_, ?_⟩
  · refine Res.bind_eq_ok.2 ⟨_, s.begin,
      inlineTarget_data (t := s.begin) data 2 (by decide) (by decide) rfl rfl, ?_⟩
    exact loadPc_value (by rw [State.freeCc, wrote.pend]; rfl) (target_even data (by decide) (by decide))
  · rw [State.setPc_mem, State.freeCc, wrote.mem]
    rfl
  · rw [State.setPc_pend, State.freeCc, wrote.pend]
    rfl

include hl

theorem execGci_badIndex (bad : (h 1).toNat ≤ (s.reg r2).toNat) :
    ∃ t, execGci r1 r2 s = .next t ∧ t.pc = s.pc + (h 2).signExtend 20 ∧ t.mem = s.mem := by
  obtain ⟨t, error, goes, mem, clear⟩ := inlineError_value data [r1, 3#4]
  refine ⟨t, ?_, goes, mem⟩
  rw [execGci, sinceS15_value hl]
  exact transfer_ok (Res.bind_eq_ok.2 ⟨h 1, s.begin, readHalf_value rfl (data.reads 1 (by decide) (by decide)),
    (if_pos ((size_le_iff _ _).2 bad)).trans error⟩) clear

theorem execWci_badIndex (bad : (h 1).toNat ≤ (s.reg r2).toNat) :
    ∃ t, execWci r1 r2 s = .next t ∧ t.pc = s.pc + (h 2).signExtend 20 ∧ t.mem = s.mem := by
  obtain ⟨t, error, goes, mem, clear⟩ := inlineError_value data [3#4]
  refine ⟨t, ?_, goes, mem⟩
  rw [execWci, sinceS15_value hl]
  exact transfer_ok (Res.bind_eq_ok.2 ⟨h 1, s.begin, readHalf_value rfl (data.reads 1 (by decide) (by decide)),
    (if_pos ((size_le_iff _ _).2 bad)).trans error⟩) clear

omit hl in
/-- Where GCI goes: to NEXT at the end of the bufferlet, past the in-line data else, or to LAST, if the buffer may
be empty now (R386). -/
theorem gciNext_value (q be : Word) :
    ∃ onward, gciNext s.pc q be s.begin = .ok onward s.begin.tick.tick ∧ onward.getLsbD 0 = false ∧
      (onward = (if (q.toNat + 1) % 16 = 0 then s.pc + (h 4).signExtend 20 else nextAddr s.pc 12) ∨
        (onward = s.pc + (h 5).signExtend 20 ∧ (be = q ∨ be = q + 1#32))) := by
  have place (k : Nat) (h1 : 1 ≤ k) (h6 : k ≤ 6) :
      inlineTarget s.pc k s.begin.tick.tick = .ok (s.pc + (h k).signExtend 20) s.begin.tick.tick :=
    inlineTarget_data data k h1 h6 rfl rfl
  rw [gciNext]
  generalize he : (if s.begin.freeBit then be == q else be == q + 1#32) = empty
  have reached (hempty : empty = true) : be = q ∨ be = q + 1#32 := by
    rw [hempty] at he
    split at he
    · exact .inl (beq_iff_eq.1 he)
    · exact .inr (beq_iff_eq.1 he)
  by_cases full : (q.toNat + 1) % 16 = 0
  · rw [if_pos ((bufferletEnd_next q).2 full), if_pos full]
    by_cases last : (empty && s.begin.tick.freeBit) = true
    · rw [if_pos last]
      rw [Bool.and_eq_true] at last
      exact ⟨_, place 5 (by decide) (by decide), target_even data (by decide) (by decide),
        .inr ⟨rfl, reached last.1⟩⟩
    · rw [if_neg last]
      exact ⟨_, place 4 (by decide) (by decide), target_even data (by decide) (by decide), .inl rfl⟩
  · rw [if_neg fun e => full ((bufferletEnd_next q).1 e), if_neg full]
    by_cases last : empty = true
    · rw [if_pos last]
      exact ⟨_, place 5 (by decide) (by decide), target_even data (by decide) (by decide), .inr ⟨rfl, reached last⟩⟩
    · rw [if_neg last]
      exact ⟨_, rfl, nextAddr_even data.pc (by decide), .inl rfl⟩

variable {q : Word} (good : ¬(h 1).toNat ≤ (s.reg r2).toNat)
  (pointer : s.dataFull (bufferWord (h 3) (s.reg r2)) = some q)

include good pointer

omit hl in
/-- With a good index GCI and WCI go on with the pointer of the buffer (R386, R387, R395). -/
theorem pointer_value {rs : List Reg} {goOn : Half → Half → Word → State → Res Unit} :
    ((readHalf (inlineAddr s.pc 1) s.begin).bind fun size u =>
      if (size.setWidth 32 : Word) ≤ s.reg r2 then inlineError rs u
      else (readHalf (inlineAddr s.pc 3) u).bind fun quarter v =>
        (readFull (bufferWord quarter (s.reg r2)) v).bind fun p w => goOn size quarter p w) =
      goOn (h 1) (h 3) q s.begin := by
  rw [readHalf_value (s := s.begin) rfl (data.reads 1 (by decide) (by decide)), Res.bind_ok,
    if_neg fun bad => good ((size_le_iff _ _).1 bad),
    readHalf_value (s := s.begin) rfl (data.reads 3 (by decide) (by decide)), Res.bind_ok,
    readFull_value (s := s.begin) rfl pointer, Res.bind_ok]

theorem execGci_empty (hq : q = 0#32) :
    ∃ t, execGci r1 r2 s = .next t ∧ t.pc = s.pc + (h 2).signExtend 20 ∧ t.mem = s.mem := by
  obtain ⟨t, error, goes, mem, clear⟩ := inlineError_value data [r1, 3#4]
  refine ⟨t, ?_, goes, mem⟩
  rw [execGci, sinceS15_value hl]
  exact transfer_ok ((pointer_value data good pointer).trans ((if_pos hq).trans error)) clear

theorem execWci_empty (hq : q = 0#32) :
    ∃ t, execWci r1 r2 s = .next t ∧ t.pc = s.pc + (h 5).signExtend 20 ∧ t.mem = s.mem := by
  refine ⟨((s.begin.freeReg 3#4).freeCc).setPc (s.pc + (h 5).signExtend 20), ?_, rfl, rfl⟩
  rw [execWci, sinceS15_value hl]
  refine transfer_ok ((pointer_value data good pointer).trans ((if_pos hq).trans ?_)) rfl
  exact Res.bind_eq_ok.2 ⟨_, s.begin, inlineTarget_data (t := s.begin) data 5 (by decide) (by decide) rfl rfl,
    loadPc_value rfl (target_even data (by decide) (by decide))⟩

variable (hq : q ≠ 0#32) (hw : s.mem.wf = true) (hp : s.psw.rp = false)
  (left : isPlain s.params (evenAddr (programAddr (bufferWord (h 3) (s.reg r2)))) = true)
  (right : isPlain s.params (evenAddr (programAddr (bufferWord (h 3) (s.reg r2))) + 2#20) = true)

include hq hw hp left right

/-- GCI of a buffer that is not empty. -/
theorem execGci_delivers {be : Word} {b : Byte}
    (last : s.dataFull (bufferWord (h 3) (s.reg r2) + (h 1).setWidth 32) = some be) (char : s.dataByte q = some b) :
    ∃ t, execGci r1 r2 s = .next t ∧ t.dataFull (bufferWord (h 3) (s.reg r2)) = some (q + 1#32) ∧
      (r1 ≠ 3#4 → t.reg 3#4 = q + 1#32 ∧ (t.reg r1).extractLsb' 0 8 = b) ∧
      (t.pc = (if (q.toNat + 1) % 16 = 0 then s.pc + (h 4).signExtend 20 else nextAddr s.pc 12) ∨
        (t.pc = s.pc + (h 5).signExtend 20 ∧ (be = q ∨ be = q + 1#32))) := by
  obtain ⟨onward, next, even, goes⟩ := gciNext_value data q be
  let place := bufferWord (h 3) (s.reg r2)
  let y := s.begin.tick.tick.openHalf (place + 2#32 * (h 1).setWidth 32 + 2#32)
  let z := y.setMem (y.mem.setFull (evenAddr (programAddr place)) (q + 1#32))
  have wrote := z.delivered_wrote r1 b (q + 1#32)
  have clear : (z.delivered r1 b (q + 1#32)).pend.mac = false := by
    rw [wrote.pend]
    rfl
  refine ⟨(z.delivered r1 b (q + 1#32)).setPc onward, ?_, ?_, fun h3 => ?_, goes⟩
  · rw [execGci, sinceS15_value hl]
    refine transfer_ok ((pointer_value data good pointer).trans ((if_neg hq).trans ?_)) clear
    refine Res.bind_eq_ok.2 ⟨be, s.begin, readFull_value rfl last, ?_⟩
    refine Res.bind_eq_ok.2 ⟨b, s.begin, readByte_value rfl char, ?_⟩
    refine Res.bind_eq_ok.2 ⟨onward, s.begin.tick.tick, next, ?_⟩
    exact Res.bind_eq_ok.2 ⟨(), z, writeFull_memory (s := y) hp rfl left right _, loadPc_value clear even⟩
  · refine dataFull_setFull (m := y.mem) (by rw [State.setPc_psw, wrote.relocation]; exact hp)
      (Memory.wf_scribbled _ _ _ hw) (by rw [State.setPc_mem, wrote.mem]; rfl) ?_ ?_
    · rw [State.setPc_params, wrote.params]
      exact left
    · rw [State.setPc_params, wrote.params]
      exact right
  · exact State.delivered_regs (z := z) rfl h3 b (q + 1#32)

/-- WCI of a buffer that is not empty. -/
theorem execWci_stores (char : isPlain s.params (evenAddr (programAddr q)) = true)
    (after : isPlain s.params (evenAddr (programAddr (q + 1#32))) = true) :
    ∃ t, execWci r1 r2 s = .next t ∧ t.dataFull (bufferWord (h 3) (s.reg r2)) = some (q + 1#32) ∧
      t.pc = (if (q.toNat + 1) % 16 = 0 then s.pc + (h 4).signExtend 20 else nextAddr s.pc 12) ∧
      (¬(q.toNat + 1) % 16 = 0 →
        (∀ x ∈ [q, q + 1#32],
          evenAddr (programAddr x) ≠ evenAddr (programAddr (bufferWord (h 3) (s.reg r2))) ∧
          evenAddr (programAddr x) ≠ evenAddr (programAddr (bufferWord (h 3) (s.reg r2))) + 2#20) →
        t.dataByte q = some ((s.reg r1).setWidth 8) ∨ t.dataByte (q + 1#32) = some ((s.reg r1).setWidth 8)) := by
  let place := bufferWord (h 3) (s.reg r2)
  let y := s.begin.tick.openHalf (place + (h 1).setWidth 32 + 2#32)
  obtain ⟨m, stored, canonical, there⟩ := wciStore_value (s := y) rfl (Memory.wf_scribbled _ _ _ hw) hp char after
    s.begin.freeBit ((s.reg r1).setWidth 8)
  let z := y.setMem (m.setFull (evenAddr (programAddr place)) (q + 1#32))
  obtain ⟨onward, next, even, goes⟩ : ∃ onward, (if bufferletEnd (q + 1#32) then inlineTarget s.pc 4 s.begin
      else .ok (nextAddr s.pc 12) s.begin) = .ok onward s.begin ∧ onward.getLsbD 0 = false ∧
      onward = (if (q.toNat + 1) % 16 = 0 then s.pc + (h 4).signExtend 20 else nextAddr s.pc 12) := by
    by_cases full : (q.toNat + 1) % 16 = 0
    · rw [if_pos ((bufferletEnd_next q).2 full), if_pos full]
      exact ⟨_, inlineTarget_data (t := s.begin) data 4 (by decide) (by decide) rfl rfl,
        target_even data (by decide) (by decide), rfl⟩
    · rw [if_neg fun e => full ((bufferletEnd_next q).1 e), if_neg full]
      exact ⟨_, rfl, nextAddr_even data.pc (by decide), rfl⟩
  let t := ((z.freeReg 3#4).freeCc).setPc onward
  have mem : t.mem = m.setFull (evenAddr (programAddr place)) (q + 1#32) := rfl
  refine ⟨t, ?_, dataFull_setFull (s := t) hp canonical mem left right, goes, fun room apart => ?_⟩
  · rw [execWci, sinceS15_value hl]
    refine transfer_ok ((pointer_value data good pointer).trans ((if_neg hq).trans ?_)) rfl
    refine Res.bind_eq_ok.2 ⟨onward, s.begin, next, ?_⟩
    refine Res.bind_eq_ok.2 ⟨(), y.setMem m, stored, ?_⟩
    exact Res.bind_eq_ok.2 ⟨(), z, writeFull_memory (s := y.setMem m) hp rfl left right _, loadPc_value rfl even⟩
  · obtain ⟨apartQ, apartNext⟩ : _ ∧ _ := ⟨apart q (by simp), apart (q + 1#32) (by simp)⟩
    refine (there fun e => room ((bufferletEnd_next q).1 e)).imp (fun here => ?_) fun here => ?_
    · rw [dataByte_memory (s := t) hp char, mem, Memory.read_setFull_other apartQ.1 apartQ.2, here]
    · rw [dataByte_memory (s := t) hp after, mem, Memory.read_setFull_other apartNext.1 apartNext.2, here]

end Bufferlets

end Sys2Proof.Machine

/-! # The copies of RTD and RMA

Memory after some of the characters have been copied, the copy by its characters one after another, and the three
ways it ends (R389 to R392, R396). -/

namespace Sys2Proof.Machine

/-! ## Memory after some characters -/

/-- Memory after the first `c` characters, `b 0` and so on, have been copied. -/
def State.copiedMem (s : State) (rtd : Bool) (b : Nat → Byte) : Nat → Memory
  | 0 => s.mem
  | c + 1 => (s.copiedMem rtd b c).setByte (programAddr (s.copyTo rtd c)) (b c)

section Copied

variable {s : State} {rtd : Bool} {b : Nat → Byte} {c : Nat}

theorem copiedMem_wf (hw : s.mem.wf = true) (c : Nat) : (s.copiedMem rtd b c).wf = true := by
  induction c with
  | zero => exact hw
  | succ c ih => exact Memory.wf_setByte ih _ _

/-- Every byte but those of the characters stays. -/
theorem copiedMem_read_other (hw : s.mem.wf = true) {x : Nat}
    (hx : ∀ k, k < c → x ≠ (programAddr (s.copyTo rtd k)).toNat) :
    (s.copiedMem rtd b c).read x = s.mem.read x := by
  induction c with
  | zero => rfl
  | succ c ih =>
    rw [State.copiedMem, Memory.read_setByte (copiedMem_wf hw c), if_neg (hx c c.lt_succ_self)]
    exact ih fun k hk => hx k (Nat.lt_succ_of_lt hk)

/-- A halfword without a character stays. -/
theorem copiedMem_half_other {a : Addr}
    (ha : ∀ k, k < c → evenAddr a ≠ evenAddr (programAddr (s.copyTo rtd k))) :
    (s.copiedMem rtd b c).half (evenAddr a) = s.mem.half (evenAddr a) := by
  induction c with
  | zero => rfl
  | succ c ih =>
    rw [State.copiedMem, Memory.half_setByte_other (ha c c.lt_succ_self)]
    exact ih fun k hk => ha k (Nat.lt_succ_of_lt hk)

/-- What translates to another halfword reads as before. -/
theorem copiedMem_dataHalf (hp : s.psw.rp = false) {ea : Word}
    (ha : ∀ k, k < c → evenAddr (programAddr ea) ≠ evenAddr (programAddr (s.copyTo rtd k))) :
    (s.setMem (s.copiedMem rtd b c)).dataHalf ea = s.dataHalf ea :=
  dataHalf_setMem (translate_unrelocated hp _ _) (copiedMem_half_other ha)

theorem State.Copyable.mono {m : Nat} (h : s.Copyable rtd b m) (hc : c ≤ m) : s.Copyable rtd b c := by
  intro k hk
  obtain ⟨inside, source, plain, apart, data⟩ := h k (hk.trans_le hc)
  exact ⟨inside, source, plain, fun j hj => apart j (hj.trans_le hc), data⟩

/-- A bufferlet has room for fifteen characters at most (R396). -/
theorem State.Copyable.le_fifteen (h : s.Copyable rtd b c) : c ≤ 15 := by
  by_contra more
  obtain ⟨inside, -⟩ := h ((16 - (s.bufferAt rtd 0).toNat % 16) % 16) (by omega)
  apply inside
  simp only [State.bufferAt, BitVec.toNat_add, BitVec.toNat_ofNat]
  split <;> omega

/-- Two characters go to different bytes. -/
theorem copyTo_injective (hc : c ≤ 15) {j k : Nat} (hj : j < c) (hk : k < c)
    (e : (programAddr (s.copyTo rtd j)).toNat = (programAddr (s.copyTo rtd k)).toNat) : j = k := by
  simp only [programAddr, State.copyTo, BitVec.toNat_setWidth, BitVec.toNat_add, BitVec.toNat_ofNat] at e
  omega

/-- Each character is where it was copied to. -/
theorem copiedMem_read (hw : s.mem.wf = true) (hc : c ≤ 15) {k : Nat} (hk : k < c) :
    (s.copiedMem rtd b c).read (programAddr (s.copyTo rtd k)).toNat = b k := by
  induction c with
  | zero => omega
  | succ c ih =>
    rw [State.copiedMem, Memory.read_setByte (copiedMem_wf hw c)]
    split
    next same => rw [copyTo_injective (c := c + 1) hc hk c.lt_succ_self same]
    next other =>
      have ne : k ≠ c := fun e => other (e ▸ rfl)
      exact ih (by omega) (by omega)

end Copied

/-! ## The characters one after another -/

/-- What RMA's first character may come from instead of memory: the halfwords x[R1] holds (R389). -/
def State.HeldHalves (s : State) (rtd : Bool) (held : Option Word) : Prop :=
  ∀ w, held = some w → rtd = false →
    s.dataHalf (s.copyTo false 0) = some (w.extractLsb' 16 16) ∧
      s.dataHalf (s.copyFrom false 0) = some (w.extractLsb' 0 16)

section Moves

variable {s : State} {rtd : Bool} {b : Nat → Byte} {c m : Nat} (hm : s.pend.mac = false) (hp : s.psw.rp = false)

/-- The address of character `c + 1` follows that of character `c`. -/
theorem add_ofNat_succ (a : Word) (c : Nat) : a + BitVec.ofNat 32 (c + 1) = a + BitVec.ofNat 32 c + 1#32 := by
  rw [BitVec.ofNat_add, BitVec.add_assoc]

theorem bufferAt_eq (s : State) (rtd : Bool) (c : Nat) :
    s.bufferAt rtd c = bufferPlace rtd (s.reg 3#4 + BitVec.ofNat 32 c) := by
  cases rtd with
  | true => exact add_ofNat_succ _ c
  | false => rfl

include hm hp

/-- The next character is copied from and to memory. -/
theorem moveChar_memory (copyable : s.Copyable rtd b (c + 1)) :
    moveChar rtd none (s.reg 12#4 + BitVec.ofNat 32 c) (s.reg 3#4 + BitVec.ofNat 32 c)
      (s.setMem (s.copiedMem rtd b c)) = .ok (b c) (s.setMem (s.copiedMem rtd b (c + 1))) := by
  obtain ⟨-, source, plain, -⟩ := copyable c c.lt_succ_self
  have apart (k : Nat) (hk : k < c) :
      evenAddr (programAddr (s.copyFrom rtd c)) ≠ evenAddr (programAddr (s.copyTo rtd k)) :=
    (copyable k (Nat.lt_succ_of_lt hk)).2.2.2.1 c c.lt_succ_self
  have char : (s.setMem (s.copiedMem rtd b c)).dataByte (s.copyFrom rtd c) = some (b c) := by
    rw [State.dataByte, copiedMem_dataHalf hp apart]
    exact source
  have read := readByte_value (s := s.setMem (s.copiedMem rtd b c)) hm char
  have written := writeByte_memory (s := s.setMem (s.copiedMem rtd b c)) hp hm plain (b c)
  rw [moveChar]
  cases rtd with
  | true =>
    rw [if_pos rfl, ← add_ofNat_succ]
    exact Res.bind_eq_ok.2 ⟨_, _, read, Res.bind_eq_ok.2 ⟨(), _, written, rfl⟩⟩
  | false =>
    rw [if_neg Bool.false_ne_true, ← add_ofNat_succ]
    exact Res.bind_eq_ok.2 ⟨_, _, read, Res.bind_eq_ok.2 ⟨(), _, written, rfl⟩⟩

/-- The first character, from x[R1] or from memory. -/
theorem moveChar_first {held : Option Word} (current : s.HeldHalves rtd held) (copyable : s.Copyable rtd b 1) :
    moveChar rtd held (s.reg 12#4) (s.reg 3#4) s = .ok (b 0) (s.setMem (s.copiedMem rtd b 1)) := by
  have memory := moveChar_memory hm hp copyable
  rw [BitVec.add_zero, BitVec.add_zero] at memory
  cases held with
  | none => exact memory
  | some w =>
    cases rtd with
    | true => exact memory
    | false =>
      obtain ⟨-, source, plain, -⟩ := copyable 0 (by decide)
      obtain ⟨record, buffer⟩ := current w rfl rfl
      rw [dataHalf_memory hp plain, Option.some.injEq] at record
      rw [State.dataByte, buffer, Option.map_some, Option.some.injEq] at source
      have first : s.copyFrom false 0 = s.reg 3#4 := BitVec.add_zero _
      have low : halfOf true w = w.extractLsb' 0 16 := by
        rw [halfOf, if_pos rfl, BitVec.setWidth_eq_extractLsb' (by decide)]
      have char : byteAt (programAddr (s.reg 3#4)) (halfOf true w) = b 0 := by rw [← source, low, first]
      have left : halfOf false w = s.mem.half (evenAddr (programAddr (s.copyTo false 0))) := record.symm
      rw [moveChar, if_neg Bool.false_ne_true]
      dsimp only
      rw [char, left]
      exact Res.bind_eq_ok.2 ⟨(), _, writeHalf_plain hm (storesTo_unrelocated hp plain) _, rfl⟩

/-- Character `c`, of which only the first may come from x[R1]. -/
theorem moveChar_value {held : Option Word} (current : s.HeldHalves rtd held) (copyable : s.Copyable rtd b (c + 1)) :
    moveChar rtd (if c = 0 then held else none) (s.reg 12#4 + BitVec.ofNat 32 c) (s.reg 3#4 + BitVec.ofNat 32 c)
      (s.setMem (s.copiedMem rtd b c)) = .ok (b c) (s.setMem (s.copiedMem rtd b (c + 1))) := by
  cases c with
  | zero =>
    rw [if_pos rfl, BitVec.add_zero, BitVec.add_zero]
    exact moveChar_first hm hp current copyable
  | succ c => exact moveChar_memory hm hp copyable

omit hm hp in
theorem bufferlet_room (copyable : s.Copyable rtd b (c + 1)) :
    bufferletEnd (bufferPlace rtd (s.reg 3#4 + BitVec.ofNat 32 c)) = false := by
  rw [Bool.eq_false_iff, ne_eq, bufferletEnd_iff, ← bufferAt_eq]
  exact (copyable c c.lt_succ_self).1

/-- The first `c` characters of a record, none of them special, are copied and counted (R389 to R392). -/
theorem moveRecord_copies {held : Option Word} (current : 0 < c → s.HeldHalves rtd held)
    (copyable : s.Copyable rtd b c) (plain : ∀ k, k < c → 4 ≤ (b k).toNat) (n : Nat) :
    moveRecord rtd (n + c) held (s.reg 12#4) (s.reg 3#4) s =
      moveRecord rtd n (if c = 0 then held else none) (s.reg 12#4 + BitVec.ofNat 32 c)
        (s.reg 3#4 + BitVec.ofNat 32 c) (s.setMem (s.copiedMem rtd b c)) := by
  induction c generalizing n with
  | zero =>
    rw [if_pos rfl, BitVec.add_zero, BitVec.add_zero]
    rfl
  | succ c ih =>
    have before := ih (fun _ => current c.succ_pos) (copyable.mono c.le_succ)
      (fun k hk => plain k (Nat.lt_succ_of_lt hk)) (n + 1)
    have char := moveChar_value hm hp (current c.succ_pos) copyable
    rw [Nat.add_right_comm] at before
    rw [← Nat.add_assoc, before, moveRecord_plain (bufferlet_room copyable) char hm (plain c c.lt_succ_self),
      if_neg c.succ_ne_zero, add_ofNat_succ (s.reg 12#4) c, add_ofNat_succ (s.reg 3#4) c]

end Moves

/-! ## What a copy leaves -/

theorem afterMove_untainted {s : State} (hm : s.pend.mac = false) (r1 r2 : Reg) (m : Moved) :
    s.afterMove r1 r2 m =
      ((((s.freeReg r1).setReg r2 (BitVec.ofNat 32 m.count)).setReg 12#4 m.record).setReg 3#4 m.buffer).freeCc := by
  rw [State.afterMove, State.writeReg_untainted (s.freeReg r1) _ _ (by exact hm),
    State.writeReg_untainted ((s.freeReg r1).setReg r2 _) _ _ (by exact hm),
    State.writeReg_untainted (((s.freeReg r1).setReg r2 _).setReg 12#4 _) _ _ (by exact hm)]

theorem afterMove_wrote (s : State) (r1 r2 : Reg) (m : Moved) :
    s.Wrote [r1, r2, 12#4, 3#4] (s.afterMove r1 r2 m) := by
  have opened := (State.Wrote.refl [r1, r2, 12#4, 3#4] s).freeReg (r := r1) (by simp)
  exact (((opened.writeReg (by simp) _).writeReg (by simp) _).writeReg (by simp) _).tick.setFlags _

theorem afterMove_regs {s : State} (hm : s.pend.mac = false) (r1 r2 : Reg) (m : Moved) :
    (s.afterMove r1 r2 m).reg 3#4 = m.buffer ∧ (s.afterMove r1 r2 m).reg 12#4 = m.record ∧
      (r2 ≠ 3#4 → r2 ≠ 12#4 → (s.afterMove r1 r2 m).reg r2 = BitVec.ofNat 32 m.count) := by
  rw [afterMove_untainted hm]
  refine ⟨State.reg_setReg_same _ _ _, ?_, fun h3 h12 => ?_⟩
  · exact (State.reg_setReg_other _ _ _ _ (by decide)).trans (State.reg_setReg_same _ _ _)
  · exact (State.reg_setReg_other _ _ _ _ h3).trans
      ((State.reg_setReg_other _ _ _ _ h12).trans (State.reg_setReg_same _ _ _))

/-- The body of RTD and RMA by what its copy answers and where it goes. -/
theorem recordCopy_value {s u : State} {rtd : Bool} {base onward : Addr} {r1 r2 : Reg} {m : Moved}
    (hm : u.pend.mac = false) (even : onward.getLsbD 0 = false)
    (moved : moveRecord rtd (s.reg r2).toNat (if s.freeBit then some (s.reg r1) else none) (s.reg 12#4)
      (s.reg 3#4) s.tick = .ok m u)
    (goes : (if m.leave = 0 then .ok (nextAddr base 12) u else inlineTarget base m.leave u) = .ok onward u) :
    recordCopy rtd base r1 r2 s = .ok () ((u.afterMove r1 r2 m).setPc onward) := by
  refine Res.bind_eq_ok.2 ⟨m, u, moved, Res.bind_eq_ok.2 ⟨onward, u, goes, loadPc_value ?_ even⟩⟩
  rw [(afterMove_wrote u r1 r2 m).pend, hm]

/-- A state that differs from the one before in the copied characters and the count of free values is `CopiedTo`
once the registers are written. -/
theorem copiedTo_afterMove {s u : State} {rtd : Bool} {r1 r2 : Reg} {b : Nat → Byte} {c n : Nat} {leave : Nat}
    {buffer : Word} {a : Addr} (hp : s.psw.rp = false) (hw : s.mem.wf = true) (copyable : s.Copyable rtd b c)
    (hu : ∃ ix, u = { s.begin with mem := s.copiedMem rtd b c, freeIx := ix }) :
    s.CopiedTo ((u.afterMove r1 r2 ⟨leave, n, s.reg 12#4 + BitVec.ofNat 32 c, buffer⟩).setPc a) rtd r1 r2 b c n
      buffer := by
  obtain ⟨ix, hu⟩ := hu
  have wrote := afterMove_wrote u r1 r2 ⟨leave, n, s.reg 12#4 + BitVec.ofNat 32 c, buffer⟩
  have mem : (u.afterMove r1 r2 ⟨leave, n, s.reg 12#4 + BitVec.ofNat 32 c, buffer⟩).mem = s.copiedMem rtd b c := by
    rw [wrote.mem, hu]
  obtain ⟨r3, r12, count⟩ := afterMove_regs (s := u) (by rw [hu]; rfl) r1 r2
    ⟨leave, n, s.reg 12#4 + BitVec.ofNat 32 c, buffer⟩
  refine ⟨fun k hk => ?_, fun x hx => ?_, r3, r12, count, fun k r hr => ?_⟩
  · rw [dataByte_memory (by rw [State.setPc_psw, wrote.relocation, hu]; exact hp), State.setPc_mem, mem,
      copiedMem_read hw copyable.le_fifteen hk]
    rw [State.setPc_params, wrote.params, hu]
    exact (copyable k hk).2.2.1
  · rw [State.setPc_mem, mem, copiedMem_read_other hw hx]
  · refine (wrote.2 k r ?_).trans ?_ <;> rw [hu]
    · exact hr
    · rfl

/-! ## The instructions -/

/-- RTD2 or RTD1, RMA2 or RMA1. -/
def recordInstr (rtd second : Bool) (r1 r2 : Reg) : Instr :=
  if rtd then (if second then .rtd2 r1 r2 else .rtd1 r1 r2) else if second then .rma2 r1 r2 else .rma1 r1 r2

/-- The four are one copy; its second instruction is itself or the one after it. -/
theorem exec_recordInstr (rtd second : Bool) (r1 r2 : Reg) (s : State) :
    exec (recordInstr rtd second r1 r2) s =
      sinceS15 (transfer fun t => recordCopy rtd (if second then t.pc else nextAddr t.pc 2) r1 r2 t) s := by
  cases rtd <;> cases second <;> rfl

/-- The in-line data of the instruction after another. -/
theorem inlineAddr_next (a : Addr) (k : Nat) :
    programAddr (inlineAddr (nextAddr a 2) k) = programAddr (inlineAddr a (k + 1)) := by
  have := a.isLt
  apply BitVec.eq_of_toNat_eq
  simp only [programAddr, inlineAddr, nextAddr, pcImage, BitVec.toNat_setWidth, BitVec.toNat_add,
    BitVec.toNat_ofNat]
  omega

theorem copiedMem_begin (s : State) (rtd : Bool) (b : Nat → Byte) (c : Nat) :
    s.begin.tick.copiedMem rtd b c = s.copiedMem rtd b c := by
  induction c with
  | zero => rfl
  | succ c ih =>
    rw [State.copiedMem, ih]
    rfl

section Records

variable {s : State} {h : Nat → Half} {rtd second : Bool} {b : Nat → Byte} {c n ix leave : Nat} {r1 r2 : Reg}
  {buffer : Word} (hl : s.params.microcode ≠ .belowS15) (hp : s.psw.rp = false) (hw : s.mem.wf = true)
  (data : s.InlineData h)

/-- The second of the two instructions. -/
def State.secondAt (s : State) (second : Bool) : Addr := if second then s.pc else nextAddr s.pc 2

/-- The routine the `k`th in-line halfword of the second instruction names. -/
def State.routine (s : State) (second : Bool) (h : Nat → Half) (k : Nat) : Addr :=
  s.secondAt second + (h (if second then k else k + 1)).signExtend 20

include data in
theorem secondAt_even : (s.secondAt second).getLsbD 0 = false := by
  unfold State.secondAt
  split
  · exact data.pc
  · exact nextAddr_even data.pc (by decide)

include data in
theorem routine_even {k : Nat} (h1 : 1 ≤ k) (h5 : k ≤ 5) : (s.routine second h k).getLsbD 0 = false :=
  offsetTarget_even (secondAt_even data) (by split <;> exact data.even _ (by omega) (by omega))

include hp data in
/-- The in-line data are not among the characters copied. -/
theorem routine_value (copyable : s.Copyable rtd b c) {k : Nat} (h1 : 1 ≤ k) (h5 : k ≤ 5) :
    inlineTarget (s.secondAt second) k { s.begin with mem := s.copiedMem rtd b c, freeIx := ix } =
      .ok (s.routine second h k) { s.begin with mem := s.copiedMem rtd b c, freeIx := ix } := by
  have reads {j : Nat} (h1 : 1 ≤ j) (h6 : j ≤ 6) :
      (s.setMem (s.copiedMem rtd b c)).dataHalf (inlineAddr s.pc j) = some (h j) := by
    rw [copiedMem_dataHalf (ea := inlineAddr s.pc j) hp fun i hi => (copyable i hi).2.2.2.2 j h1 h6]
    exact data.reads j h1 h6
  refine inlineTarget_value rfl ?_
  cases second with
  | true => exact reads h1 (by omega)
  | false =>
    change (s.setMem (s.copiedMem rtd b c)).halfAt .read (programAddr (inlineAddr (nextAddr s.pc 2) k)) = _
    rw [inlineAddr_next]
    exact reads (j := k + 1) (by omega) (by omega)

include hl hp hw data in
/-- What the instruction leaves and where it goes, by what its copy answers. -/
theorem record_ends (copyable : s.Copyable rtd b c) (h5 : leave ≤ 5)
    (moved : moveRecord rtd (s.reg r2).toNat (if s.begin.freeBit then some (s.reg r1) else none) (s.reg 12#4)
      (s.reg 3#4) s.begin.tick =
        .ok ⟨leave, n, s.reg 12#4 + BitVec.ofNat 32 c, buffer⟩
          { s.begin with mem := s.copiedMem rtd b c, freeIx := ix }) :
    ∃ t, exec (recordInstr rtd second r1 r2) s = .next t ∧
      t.pc = (if leave = 0 then nextAddr (s.secondAt second) 12 else s.routine second h leave) ∧
      s.CopiedTo t rtd r1 r2 b c n buffer := by
  let u : State := { s.begin with mem := s.copiedMem rtd b c, freeIx := ix }
  let m : Moved := ⟨leave, n, s.reg 12#4 + BitVec.ofNat 32 c, buffer⟩
  obtain ⟨onward, goes, even, place⟩ : ∃ onward, (if leave = 0 then .ok (nextAddr (s.secondAt second) 12) u
      else inlineTarget (s.secondAt second) leave u) = .ok onward u ∧ onward.getLsbD 0 = false ∧
      onward = (if leave = 0 then nextAddr (s.secondAt second) 12 else s.routine second h leave) := by
    by_cases done : leave = 0
    · rw [if_pos done, if_pos done]
      exact ⟨_, rfl, nextAddr_even (secondAt_even data) (by decide), rfl⟩
    · rw [if_neg done, if_neg done]
      exact ⟨_, routine_value hp data copyable (by omega) h5, routine_even data (by omega) h5, rfl⟩
  refine ⟨(u.afterMove r1 r2 m).setPc onward, ?_, place, copiedTo_afterMove hp hw copyable ⟨ix, rfl⟩⟩
  rw [exec_recordInstr, sinceS15_value hl]
  exact transfer_ok (recordCopy_value (u := u) rfl even moved goes)
    (congrArg Pending.mac (afterMove_wrote u r1 r2 m).pend)

variable (current : rtd = false → 0 < (s.reg r2).toNat → s.CurrentHalves r1)
  (plain : ∀ k, k < c → 4 ≤ (b k).toNat)

include current in
/-- What x[R1] holds, if the instruction uses it. -/
theorem held_current (some_ : 0 < (s.reg r2).toNat) (use : Bool) :
    s.begin.tick.HeldHalves rtd (if use then some (s.reg r1) else none) := by
  intro w held hr
  cases use with
  | true =>
    cases held
    exact current hr some_
  | false => cases held

include hp current plain in
/-- The characters before the end of the copy. -/
theorem moveRecord_before (copyable : s.Copyable rtd b c) (k : Nat) (count : (s.reg r2).toNat = k + c) :
    moveRecord rtd (s.reg r2).toNat (if s.begin.freeBit then some (s.reg r1) else none) (s.reg 12#4)
        (s.reg 3#4) s.begin.tick =
      moveRecord rtd k (if c = 0 then (if s.begin.freeBit then some (s.reg r1) else none) else none)
        (s.reg 12#4 + BitVec.ofNat 32 c) (s.reg 3#4 + BitVec.ofNat 32 c)
        (s.begin.tick.setMem (s.copiedMem rtd b c)) := by
  rw [count, ← copiedMem_begin]
  exact moveRecord_copies (s := s.begin.tick) rfl hp (fun pos => held_current current (by omega) _) copyable plain k

include hl hp hw data current plain

/-- With the count at 0 the copy is done, or, at the end of a bufferlet, leaves to NEXT (R392, R396). -/
theorem record_done (copyable : s.Copyable rtd b c) (count : c = (s.reg r2).toNat) :
    ∃ t, exec (recordInstr rtd second r1 r2) s = .next t ∧
      ((t.pc = nextAddr (s.secondAt second) 12 ∧
          s.CopiedTo t rtd r1 r2 b c 0 (s.reg 3#4 + BitVec.ofNat 32 c)) ∨
        ((s.bufferAt rtd c).toNat % 16 = 0 ∧ t.pc = s.routine second h 1 ∧
          s.CopiedTo t rtd r1 r2 b c 0 (s.bufferAt rtd c))) := by
  have before := moveRecord_before hp current plain copyable 0 (by omega)
  rw [moveRecord, ← bufferAt_eq] at before
  by_cases ended : bufferletEnd (s.bufferAt rtd c) = true ∧
      (s.begin.tick.setMem (s.copiedMem rtd b c)).freeBit = true
  · rw [if_pos ended] at before
    obtain ⟨t, done, goes, copied⟩ :=
      record_ends (second := second) (leave := 1) hl hp hw data copyable (by decide) before
    exact ⟨t, done, .inr ⟨(bufferletEnd_iff _).1 ended.1, goes, copied⟩⟩
  · rw [if_neg ended] at before
    obtain ⟨t, done, goes, copied⟩ :=
      record_ends (second := second) (leave := 0) hl hp hw data copyable (by decide) before
    exact ⟨t, done, .inl ⟨goes, copied⟩⟩

/-- At the end of a bufferlet the copy leaves to NEXT (R396). -/
theorem record_next (copyable : s.Copyable rtd b c) (more : c < (s.reg r2).toNat)
    (ended : (s.bufferAt rtd c).toNat % 16 = 0) :
    ∃ t, exec (recordInstr rtd second r1 r2) s = .next t ∧ t.pc = s.routine second h 1 ∧
      s.CopiedTo t rtd r1 r2 b c ((s.reg r2).toNat - c) (s.bufferAt rtd c) := by
  obtain ⟨k, hk⟩ : ∃ k, (s.reg r2).toNat - c = k + 1 := ⟨_, (Nat.succ_pred_eq_of_pos (by omega)).symm⟩
  have before := moveRecord_before hp current plain copyable (k + 1) (by omega)
  rw [moveRecord_full _ (by rwa [bufferletEnd_iff, ← bufferAt_eq]), ← bufferAt_eq] at before
  rw [hk]
  exact record_ends (leave := 1) hl hp hw data copyable (by decide) before

/-- After a character of code 0 to 3 the copy leaves to its routine, the character stored and not counted
(R392). -/
theorem record_special (copyable : s.Copyable rtd b (c + 1)) (more : c < (s.reg r2).toNat)
    (special : (b c).toNat < 4) :
    ∃ t, exec (recordInstr rtd second r1 r2) s = .next t ∧
      t.pc = s.routine second h (2 + (b c).toNat) ∧
      s.CopiedTo t rtd r1 r2 b (c + 1) ((s.reg r2).toNat - c) (s.reg 3#4 + BitVec.ofNat 32 (c + 1)) := by
  obtain ⟨k, hk⟩ : ∃ k, (s.reg r2).toNat - c = k + 1 := ⟨_, (Nat.succ_pred_eq_of_pos (by omega)).symm⟩
  have before := moveRecord_before hp current plain (copyable.mono c.le_succ) (k + 1) (by omega)
  have char := moveChar_value (s := s.begin.tick) rfl hp (held_current current (by omega) s.begin.freeBit) copyable
  have same (r : Reg) : s.begin.tick.reg r = s.reg r := rfl
  rw [copiedMem_begin, copiedMem_begin, same, same] at char
  have room : bufferletEnd (bufferPlace rtd (s.reg 3#4 + BitVec.ofNat 32 c)) = false := bufferlet_room copyable
  rw [moveRecord_special room char rfl special, ← add_ofNat_succ, ← add_ofNat_succ, Nat.add_comm _ 2] at before
  obtain ⟨t, done, goes, copied⟩ := record_ends (second := second) hl hp hw data copyable (by omega) before
  rw [if_neg (by omega)] at goes
  rw [hk]
  exact ⟨t, done, goes, copied⟩

end Records

/-- Settles O60: GCI and WCI by the index and the pointer of the buffer, RTD and RMA by the three ends of their
copy. -/
theorem bufferletCompletes : Obligations.BufferletCompletes := by
  intro s r1 r2 h hp hl hpc reads even target place onMemory
  have data : s.InlineData h := ⟨hpc, reads, even⟩
  simp only [exec_cbct, exec_gci, exec_wci]
  have word : bufferWord (h 3) (s.reg r2) = place := bufferWord_eq _ _
  refine ⟨?cbct, fun bad => ⟨execGci_badIndex hl data bad, execWci_badIndex hl data bad⟩,
    fun good empty => ⟨execGci_empty hl data (Nat.not_le.2 good) (word ▸ empty) rfl,
      execWci_empty hl data (Nat.not_le.2 good) (word ▸ empty) rfl⟩,
    fun q good hw pointer hq left right => ⟨fun be b last char => ?gci, fun here after => ?wci⟩,
    fun rtd second b c hw current plain => ⟨fun count copyable =>
        record_done hl hp hw data current plain copyable count,
      fun more copyable ended => record_next hl hp hw data current plain copyable more ended,
      fun more copyable special => record_special hl hp hw data current plain copyable more special⟩⟩
  case cbct =>
    have wrote := undescribedRead_wrote (s := s.begin) hp [r1]
    refine ⟨(s.begin.undescribedRead [r1]).setPc (nextAddr s.pc 6), ?_, State.setPc_pc _ _, wrote.mem⟩
    rw [execCbct, sinceS15_value hl]
    exact sequential_ok rfl (congrArg Pending.mac wrote.pend)
  case gci =>
    have done := execGci_delivers (r1 := r1) hl data (Nat.not_le.2 good) (word ▸ pointer) hq hw hp (word ▸ left)
      (word ▸ right) (word ▸ last) char
    rwa [word] at done
  case wci =>
    have done := execWci_stores (r1 := r1) hl data (Nat.not_le.2 good) (word ▸ pointer) hq hw hp (word ▸ left)
      (word ▸ right) here after
    rwa [word] at done

end Sys2Proof.Machine

/-! # What an async body leaves open

The registers it may change, where it stands as R400 expects and where it does not, and the port SBOD names (R371,
R373, R400). -/

namespace Sys2Proof.Machine

/-! ## Free registers (R400) -/

/-- A register that is not picked stays. -/
theorem State.regIn_freeRegs {s : State} {picked : Nat → Bool} {k : Nib} {r : Reg}
    (h : picked (16 * k.toNat + r.toNat) = false) : (s.freeRegs picked).regIn k r = s.regIn k r := by
  have h' : picked (regIndex k r).val = false := h
  simp only [State.regIn, State.freeRegs, Vector.getElem_mapFinIdx, h']
  rfl

/-- Of the other sets the async microcode works in no register. -/
theorem workedByAsync_eq_false {k : Nib} {r : Reg} (h1 : k ≠ 1#4) (h2 : k ≠ 2#4) :
    workedByAsync (16 * k.toNat + r.toNat) = false := by
  have := r.isLt
  have e1 : k.toNat ≠ 1 := fun e => h1 (BitVec.eq_of_toNat_eq e)
  have e2 : k.toNat ≠ 2 := fun e => h2 (BitVec.eq_of_toNat_eq e)
  simp only [workedByAsync, Bool.or_eq_false_iff, Bool.and_eq_false_iff, decide_eq_false_iff_not]
  omega

/-- In sets 1 and 2 it works in registers 0 to 3 and 0 to 4. -/
theorem workedByAsync_high {k : Nib} {r : Reg} (h : 5 ≤ r.toNat ∨ k = 1#4 ∧ 4 ≤ r.toNat) :
    workedByAsync (16 * k.toNat + r.toNat) = false := by
  have := r.isLt
  rcases h with h | ⟨rfl, h⟩
  · simp only [workedByAsync, Bool.or_eq_false_iff, Bool.and_eq_false_iff, decide_eq_false_iff_not]
    omega
  · simp only [workedByAsync, Bool.or_eq_false_iff, Bool.and_eq_false_iff, decide_eq_false_iff_not,
      BitVec.toNat_ofNat]
    omega

theorem workedByXmit_of_async {n : Nat} (h : workedByAsync n = false) : workedByXmit n = false := by
  rw [workedByXmit, h, Bool.false_and]

/-- A register set free leaves every other register. -/
theorem State.regIn_freeReg {s : State} {k : Nib} {r x : Reg} (h : ¬(k = s.psw.rs ∧ x = r)) :
    (s.freeReg r).regIn k x = s.regIn k x := State.regIn_setRegIn_other _ _ _ _ _ _ h

/-! ## Bodies that are open -/

/-- What an undescribed body leaves, with relocation off: memory is free wherever the program may store. -/
theorem undescribed_wrote {s : State} (hp : s.psw.rp = false) (rs : List Reg) :
    s.scribble.Wrote rs (s.undescribed rs) := by
  have calm : s.scribble.mayFault = s.scribble.tick := by simp [State.mayFault, hp]
  rw [State.undescribed, calm]
  exact ((State.Wrote.refl rs s.scribble).tick.freeEach (List.Subset.refl _)).tick.setFlags _

theorem asyncBody_wrote {s : State} (hp : s.psw.rp = false) (rs : List Reg) :
    (s.freeRegs ownedByAsync).scribble.Wrote rs (s.asyncBody rs) :=
  undescribed_wrote (s := s.freeRegs ownedByAsync) hp rs

theorem asyncBody_pend {s : State} (hp : s.psw.rp = false) (rs : List Reg) : (s.asyncBody rs).pend = s.pend :=
  (asyncBody_wrote hp rs).pend

theorem asyncOnly_value {meaning : State → Out} {s : State} (ha : s.psw.a = true)
    (he : s.params.enhancedAsync = true) : asyncOnly meaning s = meaning s := by
  simp [asyncOnly, ha, he]

section Open

variable {s : State} {r1 r2 : Reg} (ha : s.psw.a = true) (he : s.params.enhancedAsync = true)
  (hp : s.psw.rp = false)

include ha he hp

/-- XMIT where the storage does not stand. -/
theorem execXmit_open (h : s.xmitReady = false) :
    ∃ t, execXmit r1 r2 s = .next t ∧ t.pc = nextAddr s.pc 2 := by
  refine ⟨(s.begin.asyncBody [r1, r2]).setPc (nextAddr s.pc 2), ?_, State.setPc_pc _ _⟩
  rw [execXmit, asyncOnly_value ha he]
  have notReady : s.begin.xmitReady = false := h
  refine sequential_ok ?_ (congrArg Pending.mac (asyncBody_pend (s := s.begin) hp [r1, r2]))
  rw [notReady]
  rfl

/-- SPM returns a count of at most 36, or nothing (R373). -/
theorem execSpm_value :
    ∃ t, execSpm r1 r2 s = .next t ∧
      (t.pc = nextAddr s.pc 2 ∨ (t.pc = nextAddr s.pc 4 ∧ (t.reg r1).toNat ≤ 36)) := by
  let u := s.begin.asyncBody [r2, r1]
  have clear : u.pend.mac = false := congrArg Pending.mac (asyncBody_pend (s := s.begin) hp [r2, r1])
  have done := asyncOnly_value (meaning := transfer fun t =>
    let u := t.asyncBody [r2, r1]
    let skip := u.freeBit
    let count := BitVec.ofNat 32 ((u.reg r1).toNat % 37)
    .ok () ((u.tick.setReg r1 (if skip then count else u.reg r1)).setPc (nextAddr t.pc (if skip then 4 else 2))))
    ha he
  refine ⟨_, done.trans (transfer_ok rfl clear), ?_⟩
  rw [State.setPc_pc]
  change nextAddr s.pc (if u.freeBit then 4 else 2) = _ ∨ nextAddr s.pc (if u.freeBit then 4 else 2) = _ ∧
    (((u.tick.setReg r1 (if u.freeBit then BitVec.ofNat 32 ((u.reg r1).toNat % 37) else u.reg r1)).reg r1).toNat ≤ 36)
  rw [State.reg_setReg_same]
  cases u.freeBit with
  | false => exact .inl rfl
  | true =>
    refine .inr ⟨rfl, ?_⟩
    rw [if_pos rfl, BitVec.toNat_ofNat]
    omega

/-- GCHAR where the storage does not stand. -/
theorem execGchar_open (h : s.portReady (s.reg r2) = false) :
    ∃ t, execGchar r1 r2 s = .next t ∧ (t.pc = nextAddr s.pc 2 ∨ t.pc = nextAddr s.pc 6) := by
  refine ⟨(s.begin.asyncBody [r1, 0#4]).setPcEither (nextAddr s.pc 2) (nextAddr s.pc 6), ?_, ?_⟩
  · rw [execGchar, asyncOnly_value ha he]
    have notReady : s.begin.portReady (s.begin.reg r2) = false := h
    refine transfer_ok ?_ (congrArg Pending.mac (asyncBody_pend (s := s.begin) hp [r1, 0#4]))
    rw [notReady]
    rfl
  · rw [State.setPcEither, State.setPc_pc]
    split
    · exact .inl rfl
    · exact .inr rfl

end Open

/-! ## The port that SBOD names (R371) -/

/-- Registers 14 and 13 hold a port and twice the port. -/
def State.NamesPort (t : State) (groups : Nat) : Prop :=
  t.reg 13#4 = t.reg 14#4 + t.reg 14#4 ∧ (0 < groups → (t.reg 14#4).toNat < 16 * groups)

theorem foundPort_untainted {s : State} (hm : s.pend.mac = false) (port : Nat) :
    s.foundPort port = (s.setReg 14#4 (BitVec.ofNat 32 port)).setReg 13#4 (BitVec.ofNat 32 (2 * port)) := by
  rw [State.foundPort, State.writeReg_untainted s _ _ hm,
    State.writeReg_untainted (s.setReg 14#4 _) _ _ (by exact hm)]

section Found

variable {s : State} {port groups : Nat} {a : Addr}

theorem foundPort_reg (hm : s.pend.mac = false) :
    ((s.foundPort port).setPc a).reg 14#4 = BitVec.ofNat 32 port ∧
      ((s.foundPort port).setPc a).reg 13#4 = BitVec.ofNat 32 (2 * port) := by
  rw [foundPort_untainted hm]
  exact ⟨(State.reg_setReg_other _ _ _ _ (by decide)).trans (State.reg_setReg_same _ _ _),
    State.reg_setReg_same _ _ _⟩

/-- A port that is one of the groups. -/
theorem foundPort_names (hm : s.pend.mac = false) (h : 0 < groups → port < 16 * groups) :
    ((s.foundPort port).setPc a).NamesPort groups := by
  obtain ⟨r14, r13⟩ := foundPort_reg (a := a) (port := port) hm
  rw [State.NamesPort, r14, r13, ← BitVec.ofNat_add, Nat.two_mul]
  refine ⟨rfl, fun pos => ?_⟩
  rw [BitVec.toNat_ofNat]
  exact (Nat.mod_le _ _).trans_lt (h pos)

theorem foundPort_toNat (hm : s.pend.mac = false) (h : port < 2 ^ 32) :
    (((s.foundPort port).setPc a).reg 14#4).toNat = port := by
  rw [(foundPort_reg hm).1, BitVec.toNat_ofNat, Nat.mod_eq_of_lt h]

theorem foundPort_regIn (hm : s.pend.mac = false) {k : Nib} {r : Reg}
    (h : ¬(k = s.psw.rs ∧ (r = 14#4 ∨ r = 13#4))) : ((s.foundPort port).setPc a).regIn k r = s.regIn k r := by
  rw [foundPort_untainted hm]
  refine (State.regIn_setRegIn_other _ _ _ _ _ _ fun e => h ⟨e.1, .inr e.2⟩).trans ?_
  exact State.regIn_setRegIn_other _ _ _ _ _ _ fun e => h ⟨e.1, .inl e.2⟩

end Found

/-- The ports of a bit array (R371). -/
theorem mem_portsOf {n : Nat} {a : Nat → Half} {p : Nat} :
    p ∈ portsOf ((List.range n).map a) ↔ p < 16 * n ∧ (a (p / 16)).getMsbD (p % 16) = true := by
  rw [portsOf, List.mem_filter, List.mem_range, List.length_map, List.length_range]
  refine and_congr_right fun lt => ?_
  have h : p / 16 < n := by omega
  simp [List.getD, h]

/-- One of a list, chosen by a number. -/
theorem getD_mod_mem {l : List Nat} (h : l ≠ []) (n : Nat) : l.getD (n % l.length) 0 ∈ l := by
  have lt := Nat.mod_lt n (List.length_pos_iff.2 h)
  rw [List.getD_eq_getElem _ _ lt]
  exact List.getElem_mem lt

section SbodOpen

variable {s : State} {r1 r2 : Reg} {a : Nat → Half} (hm : s.pend.mac = false) (hp : s.psw.rp = false)
  (hg : s.params.asyncGroups ≤ 16)
  (array : ∀ k, k < s.params.asyncGroups → s.dataHalf (s.reg r2 + BitVec.ofNat 32 (2 * k)) = some (a k))

include hm hp hg array

/-- SBOD where the constants do not stand: one of its three returns, and on two of them a port (R371). -/
theorem sbodOpen_value :
    ∃ t, sbodOpen r1 r2 s = .ok () t ∧ t.pend.mac = false ∧
      (t.pc = nextAddr s.pc 2 ∨ (t.pc = nextAddr s.pc 6 ∧ t.NamesPort s.params.asyncGroups) ∨
        (t.pc = nextAddr s.pc 10 ∧ t.NamesPort s.params.asyncGroups ∧
          (a ((t.reg 14#4).toNat / 16)).getMsbD ((t.reg 14#4).toNat % 16) = true)) := by
  have opened (v : State) (hv : v.psw.rp = false) (hm : v.pend.mac = false) : (v.sbodBody r1).pend.mac = false :=
    (congrArg Pending.mac (asyncBody_pend hv _)).trans hm
  have found {v : State} (hv : v.pend.mac = false) (port : Nat) (a : Addr) :
      ((v.foundPort port).setPc a).pend.mac = false := by
    rw [foundPort_untainted hv]
    exact hv
  rw [sbodOpen]
  by_cases input : s.freeBit = true
  · rw [if_pos input]
    have clear := opened s.tick hp hm
    refine ⟨_, rfl, found (by exact clear) _ _, .inr (.inl ⟨rfl, foundPort_names (by exact clear) fun pos => ?_⟩)⟩
    exact Nat.mod_lt _ (by omega)
  · rw [if_neg input, portArray, readHalves_value (s := s.tick) hm array, Res.bind_ok]
    have clear := opened s.tick hp hm
    generalize s.tick.sbodBody r1 = u at clear
    by_cases none_ : portsOf ((List.range s.params.asyncGroups).map a) = [] ∨ u.freeBit = true
    · rw [if_pos none_]
      exact ⟨_, rfl, clear, .inl rfl⟩
    · rw [if_neg none_]
      rw [not_or] at none_
      have member := getD_mod_mem none_.1 u.tick.free.toNat
      generalize List.getD _ _ 0 = port at member ⊢
      obtain ⟨lt, pending⟩ := mem_portsOf.1 member
      refine ⟨_, rfl, found (by exact clear) _ _, .inr (.inr ⟨rfl, foundPort_names (by exact clear) fun _ => lt, ?_⟩)⟩
      rw [foundPort_toNat (s := u.tick.tick) clear (by omega)]
      exact pending

end SbodOpen

end Sys2Proof.Machine

/-! # SBOD

The control storage in main memory, the steps of its scanner, and the three returns (R371, R403). -/

namespace Sys2Proof.Machine

/-! ## The control storage (R403) -/

/-- An address of the control storage, `k` bytes from its beginning. -/
def controlAt (base : Word) (k : Nat) : Addr := programAddr (base + BitVec.ofNat 32 k)

/-- Is the byte at `x` one of the first `n` of the control storage? -/
def InControl (base : Word) (n : Nat) (x : Nat) : Prop := ∃ k, k < n ∧ x = (controlAt base k).toNat

theorem controlAt_toNat (base : Word) (k : Nat) : (controlAt base k).toNat = (base.toNat + k) % 2 ^ 20 := by
  rw [controlAt, programAddr, BitVec.toNat_setWidth, BitVec.toNat_add, BitVec.toNat_ofNat]
  omega

theorem isPlain_evenAddr (p : Config.Params) (a : Addr) : isPlain p (evenAddr a) = isPlain p a := by
  refine isPlain_congr ?_
  rw [evenAddr_toNat, evenBase]
  omega

theorem even_toNat {w : Word} (h : w.getLsbD 0 = false) : w.toNat % 2 = 0 := by
  rw [BitVec.getLsbD, Nat.testBit_zero, decide_eq_false_iff_not] at h
  omega

/-- With an even beginning the halfwords of the control storage are within an even number of its bytes. -/
theorem inControl_halfword {base : Word} (even : base.getLsbD 0 = false) {k n : Nat} (hk : k < n) (hn : n % 2 = 0) :
    InControl base n (evenBase (evenAddr (controlAt base k))) ∧
      InControl base n (evenBase (evenAddr (controlAt base k)) + 1) := by
  have low := even_toNat even
  rw [evenBase_evenAddr, evenBase]
  simp only [InControl, controlAt_toNat]
  exact ⟨⟨2 * (k / 2), by omega, by omega⟩, ⟨2 * (k / 2) + 1, by omega, by omega⟩⟩

/-- The control storage begins at an even address `base`, and its first `n` bytes are in main memory; no access
has faulted. -/
structure State.Control (s : State) (base : Word) (n : Nat) : Prop where
  unrelocated : s.psw.rp = false
  clear : s.pend.mac = false
  begins : s.regIn 1#4 5#4 = base
  even : base.getLsbD 0 = false
  plain : ∀ k, k < n → isPlain s.params (controlAt base k) = true

section Control

variable {s t : State} {base : Word} {n : Nat}

/-- It stays so while memory and registers other than its address change. -/
theorem State.Control.stores {places : Nat → Prop} (c : s.Control base n) (h : s.StoresAt places t)
    (kept : t.regIn 1#4 5#4 = s.regIn 1#4 5#4) : t.Control base n where
  unrelocated := by rw [h.psw]; exact c.unrelocated
  clear := by rw [h.pend]; exact c.clear
  begins := kept.trans c.begins
  even := c.even
  plain := by rw [h.params]; exact c.plain

theorem State.Control.evenPlain (c : s.Control base n) {k : Nat} (hk : k < n) :
    isPlain s.params (evenAddr (controlAt base k)) = true := by
  rw [isPlain_evenAddr]
  exact c.plain k hk

theorem State.Control.read (c : s.Control base n) {k : Nat} (hk : k < n) :
    readHalf (base + BitVec.ofNat 32 k) s = .ok (s.mem.half (evenAddr (controlAt base k))) s :=
  readHalf_value c.clear (dataHalf_memory c.unrelocated (c.evenPlain hk))

theorem State.Control.write (c : s.Control base n) {k : Nat} (hk : k < n) (v : Half) :
    writeHalf (base + BitVec.ofNat 32 k) v s =
      .ok () (s.setMem (s.mem.setHalf (evenAddr (controlAt base k)) v)) :=
  writeHalf_plain c.clear (storesTo_unrelocated c.unrelocated (c.evenPlain hk)) v

theorem State.Control.linkEntry (c : s.Control base n) (port : Nat) :
    s.linkEntry port = base + BitVec.ofNat 32 (0x200 + 2 * (port % 256)) := by
  rw [State.linkEntry, c.begins, BitVec.add_assoc, BitVec.ofNat_add]

theorem State.Control.controlEntry (c : s.Control base n) (index : Nat) :
    s.controlEntry index = base + BitVec.ofNat 32 (index % 0x200) := by
  rw [State.controlEntry, c.begins]

/-- SBA is a register alone. -/
theorem setSba_stores (places : Nat → Prop) (s : State) (port : Nat) (on : Bool) :
    s.StoresAt places (s.setSba port on) := by
  unfold State.setSba
  split <;> exact ⟨rfl, fun _ _ => rfl⟩

theorem advanceSbx_stores (places : Nat → Prop) (s : State) : s.StoresAt places s.advanceSbx :=
  ⟨rfl, fun _ _ => rfl⟩

theorem State.Control.tick (c : s.Control base n) : s.tick.Control base n := c.stores (.tick (fun _ => False) s) rfl

/-- Turning SBA on for a list of ports only reads (R403). -/
theorem rearmList_value {places : Nat → Prop} (c : s.Control base 0x400) (m : Nat) (entry : Half) :
    ∃ t, rearmList m entry s = .ok () t ∧ s.StoresAt places t := by
  induction m generalizing entry s with
  | zero => exact ⟨s, rfl, .refl _ s⟩
  | succ m ih =>
    by_cases ends : entry.msb = true
    · exact ⟨s, by rw [rearmList, if_pos ends], .refl _ s⟩
    · have armed := setSba_stores places s (entry.toNat % 256) true
      have cu : (s.setSba (entry.toNat % 256) true).Control base 0x400 :=
        c.stores armed ((s.setSba_after _ true).others _ _ (by decide))
      obtain ⟨t, done, stored⟩ := ih cu
        ((s.setSba (entry.toNat % 256) true).mem.half (evenAddr (controlAt base (0x200 + 2 * (entry.toNat % 256)))))
      refine ⟨t, ?_, armed.trans stored⟩
      rw [rearmList, if_neg ends, c.linkEntry, cu.read (by omega), Res.bind_ok, done]

/-- Serving an entry of the control ring changes the ring alone (R403). -/
theorem rearm_value (c : s.Control base 0x400) (index : Nat) :
    ∃ t, rearm index s = .ok () t ∧ s.StoresAt (InControl base 0x200) t := by
  have lt : index % 0x200 < 0x200 := Nat.mod_lt _ (by decide)
  obtain ⟨left, right⟩ := inControl_halfword c.even lt rfl
  rw [rearm, c.controlEntry, c.read (by omega), Res.bind_ok]
  generalize s.mem.half (evenAddr (controlAt base (index % 0x200))) = entry
  by_cases ends : entry.msb = true
  · exact ⟨s, if_pos ends, .refl _ s⟩
  · obtain ⟨u, listed, armed⟩ := rearmList_value (places := InControl base 0x200) c 256 entry
    have cu : u.tick.Control base 0x400 :=
      (c.stores armed ((rearmList_after listed).others _ _ (by decide))).tick
    refine ⟨_, (if_neg ends).trans (Res.bind_eq_ok.2 ⟨(), u, listed, cu.write (by omega) _⟩), ?_⟩
    exact (armed.trans (.tick _ u)).trans (.setHalf left right _)

/-- So do the steps of the scanner. -/
theorem scanSteps_value (c : s.Control base 0x400) (after : Bool) (m : Nat) :
    ∃ t, scanSteps after m s = .ok () t ∧ s.StoresAt (InControl base 0x200) t := by
  induction m generalizing s with
  | zero => exact ⟨s, rfl, .refl _ s⟩
  | succ m ih =>
    obtain ⟨u, served, first⟩ := rearm_value c ((s.regIn 1#4 4#4).toNat + if after then 2 else 0)
    have advance := first.trans (advanceSbx_stores _ u)
    have kept : u.advanceSbx.regIn 1#4 5#4 = s.regIn 1#4 5#4 := by
      rw [State.advanceSbx, State.regIn_setRegIn_other _ _ _ _ _ _ (by decide),
        State.regIn_setRegIn_other _ _ _ _ _ _ (by decide), (rearm_after served).others _ _ (by decide)]
    obtain ⟨t, done, rest⟩ := ih (c.stores advance kept)
    refine ⟨t, ?_, advance.trans rest⟩
    rw [scanSteps, served, Res.bind_ok, done]

end Control

/-! ## What the scanner has done -/

/-- SBX has advanced `m` steps of F/3 and the control index `m` entries; of memory only the control ring has
changed, and of the other registers only SBA of ports (R371, R403). -/
structure State.Scanned (s : State) (base : Word) (m : Nat) (t : State) : Prop where
  stores : s.StoresAt (InControl base 0x200) t
  tam : ∀ r, (t.regIn 3#4 r).extractLsb' 0 16 = (s.regIn 3#4 r).extractLsb' 0 16
  others : ∀ k r, k ≠ 3#4 → ¬(k = 1#4 ∧ (r = 4#4 ∨ r = 7#4)) → t.regIn k r = s.regIn k r
  index : t.regIn 1#4 4#4 = if m = 0 then s.regIn 1#4 4#4 else
    BitVec.ofNat 32 (((s.regIn 1#4 4#4).toNat + 2 * m) % 0x200)
  offset : t.ringOffset (t.regIn 1#4 7#4) =
    (s.ringOffset (s.regIn 1#4 7#4) + asyncThird s.params * m) % asyncRingBytes s.params

section Scanned

variable {s t u : State} {base : Word} {m n : Nat}

theorem scanSteps_scanned (c : s.Control base 0x400) (hg : s.params.asyncGroups ≤ 16) (after : Bool) (m : Nat) :
    ∃ t, scanSteps after m s = .ok () t ∧ s.Scanned base m t := by
  obtain ⟨t, done, stored⟩ := scanSteps_value c after m
  obtain ⟨-, tam, others, index, offset⟩ := scanSteps_after hg done
  exact ⟨t, done, stored, tam, others, index, offset⟩

theorem State.Scanned.tick (h : s.Scanned base m t) : s.Scanned base m t.tick :=
  ⟨h.stores.trans (.tick _ t), h.tam, h.others, h.index, h.offset⟩

theorem State.Scanned.trans (h : s.Scanned base m t) (k : t.Scanned base n u) : s.Scanned base (m + n) u where
  stores := h.stores.trans k.stores
  tam r := (k.tam r).trans (h.tam r)
  others i r h3 h1 := (k.others i r h3 h1).trans (h.others i r h3 h1)
  index := by
    rw [k.index, h.index]
    rcases Nat.eq_zero_or_pos n with rfl | hn
    · rw [if_pos rfl, Nat.add_zero]
    · rw [if_neg hn.ne', if_neg (Nat.add_pos_right m hn).ne']
      rcases Nat.eq_zero_or_pos m with rfl | hm
      · rw [if_pos rfl, Nat.zero_add]
      · rw [if_neg hm.ne', BitVec.toNat_ofNat]
        congr 1
        omega
  offset := by
    rw [k.offset, h.offset, h.stores.params, Nat.mod_add_mod, Nat.mul_add, Nat.add_assoc]

theorem State.Scanned.control (h : s.Scanned base m t) (c : s.Control base 0x400) : t.Control base 0x400 :=
  c.stores h.stores (h.others _ _ (by decide) (by decide))

/-- TAM is as it was. -/
theorem State.Scanned.tamOn (h : s.Scanned base m t) (port : Nat) : t.tamOn port = s.tamOn port := by
  have low (w v : Word) (e : w.extractLsb' 0 16 = v.extractLsb' 0 16) {k : Nat} (hk : k < 16) :
      w.getMsbD (16 + k) = v.getMsbD (16 + k) := by
    have := congrArg (fun x : Half => x.getLsbD (15 - k)) e
    simp only [BitVec.getLsbD_extractLsb', Nat.zero_add] at this
    have place : 32 - 1 - (16 + k) = 15 - k := by omega
    simp only [BitVec.getMsbD_eq_getLsbD, place]
    simpa [show 15 - k < 16 by omega, show 16 + k < 32 by omega] using this
  rw [State.tamOn, State.tamOn, h.stores.params]
  exact low _ _ (h.tam _) (Nat.mod_lt _ (by decide))

end Scanned

/-! ## The returns (R371) -/

/-- After the scanner SBOD changes only these registers, and where control goes. -/
structure State.SbodLeaves (v : State) (r1 : Reg) (t : State) : Prop where
  clear : t.pend.mac = false
  mem : t.mem = v.mem
  index : v.psw.rs ≠ 1#4 → ∀ r, 4 ≤ r.toNat → t.regIn 1#4 r = v.regIn 1#4 r
  tam : v.psw.rs ≠ 3#4 → ∀ r, (t.regIn 3#4 r).extractLsb' 0 16 = (v.regIn 3#4 r).extractLsb' 0 16
  others : ∀ k r, k ≠ 1#4 → k ≠ 2#4 → k ≠ 3#4 → ¬(k = v.psw.rs ∧ (r = r1 ∨ r = 14#4 ∨ r = 13#4)) →
    t.regIn k r = v.regIn k r

theorem State.SbodLeaves.ofTick {v t : State} {r1 : Reg} (h : v.tick.SbodLeaves r1 t) : v.SbodLeaves r1 t :=
  ⟨h.clear, h.mem, h.index, h.tam, h.others⟩

section Returns

variable {v : State} {r1 : Reg} {a : Addr}

theorem sbodWorks_regIn {k : Nib} {r : Reg} (idle : workedByAsync (16 * k.toNat + r.toNat) = false)
    (h : ¬(k = v.psw.rs ∧ r = r1)) : (v.sbodWorks r1).regIn k r = v.regIn k r :=
  (State.regIn_freeReg (s := v.freeRegs workedByAsync) h).trans (State.regIn_freeRegs idle)

/-- The end of SBOD without a port. -/
theorem sbodWorks_leaves (hm : v.pend.mac = false) : v.SbodLeaves r1 ((v.sbodWorks r1).setPc a) where
  clear := hm
  mem := rfl
  index h1 r hr := sbodWorks_regIn (workedByAsync_high (.inr ⟨rfl, hr⟩)) fun e => h1 e.1.symm
  tam h3 r := congrArg _ (sbodWorks_regIn (workedByAsync_eq_false (by decide) (by decide)) fun e => h3 e.1.symm)
  others k r h1 h2 _ h := sbodWorks_regIn (workedByAsync_eq_false h1 h2) fun e => h ⟨e.1, .inl e.2⟩

/-- The end of SBOD with a port. -/
theorem sbodFound_leaves (hm : v.pend.mac = false) (port : Nat) :
    v.SbodLeaves r1 (((v.sbodWorks r1).foundPort port).setPc a) where
  clear := by
    rw [foundPort_untainted (s := v.sbodWorks r1) hm]
    exact hm
  mem := by
    rw [foundPort_untainted (s := v.sbodWorks r1) hm]
    rfl
  index h1 r hr := (foundPort_regIn (s := v.sbodWorks r1) hm fun e => h1 e.1.symm).trans
    ((sbodWorks_leaves (a := a) hm).index h1 r hr)
  tam h3 r := (congrArg _ (foundPort_regIn (s := v.sbodWorks r1) hm fun e => h3 e.1.symm)).trans
    ((sbodWorks_leaves (a := a) hm).tam h3 r)
  others k r h1 h2 h3 h := (foundPort_regIn (s := v.sbodWorks r1) hm fun e => h ⟨e.1, .inr e.2⟩).trans
    ((sbodWorks_leaves (a := a) hm).others k r h1 h2 h3 h)

end Returns

theorem State.Scanned.ofTick {s t : State} {base : Word} {m : Nat} (h : s.tick.Scanned base m t) :
    s.Scanned base m t :=
  ⟨⟨h.stores.only, h.stores.outside⟩, h.tam, h.others, h.index, h.offset⟩

/-- The input return turns SBA of its port off (R371). -/
theorem State.Scanned.setSba {s t : State} {base : Word} {m : Nat} (h : s.Scanned base m t) (port : Nat) (on : Bool) :
    s.Scanned base m (t.setSba port on) := by
  have after := t.setSba_after port on
  have kept (r : Reg) : (t.setSba port on).regIn 1#4 r = t.regIn 1#4 r := after.others _ _ (by decide)
  refine ⟨h.stores.trans (setSba_stores _ t port on), fun r => (after.tam r).trans (h.tam r),
    fun k r h3 h1 => (after.others k r h3).trans (h.others k r h3 h1), (kept _).trans h.index, ?_⟩
  rw [State.ringOffset, kept, kept, after.params]
  exact h.offset

/-- A halfword that shares no place with the control storage has no byte of it. -/
theorem not_inControl {base : Word} {n : Nat} {a : Addr} (h : ∀ j, j < n → evenAddr a ≠ evenAddr (controlAt base j)) :
    ¬InControl base n (evenBase (evenAddr a)) ∧ ¬InControl base n (evenBase (evenAddr a) + 1) := by
  constructor
  all_goals
    rintro ⟨j, hj, e⟩
    refine h j hj ((evenAddr_eq_iff _ _).2 ?_)
    rw [evenBase_evenAddr, evenBase] at e
    omega

section Scan

variable {s : State} {base : Word} {r1 r2 : Reg} {a : Nat → Half} (c : s.Control base 0x400)
  (hg : s.params.asyncGroups ≤ 16)

/-- Where SBOD goes once its scanner has advanced `m` of the `behind` steps: done, for there is no port with output
pending and TAM on, to input or to output, with a port (R371). -/
def State.SbodGoes (s : State) (a : Nat → Half) (m behind : Nat) (t : State) : Prop :=
  let pending (port : Nat) : Prop := (a (port / 16)).getMsbD (port % 16) = true
  (t.pc = nextAddr s.pc 2 ∧ m = behind ∧
      ∀ port, port < 16 * s.params.asyncGroups → pending port → ¬s.tamOn port = true) ∨
    (t.pc = nextAddr s.pc 6 ∧ t.NamesPort s.params.asyncGroups) ∨
    (t.pc = nextAddr s.pc 10 ∧ m = behind ∧ t.NamesPort s.params.asyncGroups ∧ pending (t.reg 14#4).toNat ∧
      s.tamOn (t.reg 14#4).toNat = true)

/-- The input return (R371, R402). -/
theorem sbodInput_value {t : State} {m behind : Nat} (h : s.Scanned base m t) (hm : t.pend.mac = false)
    (some_ : t.inputPorts ≠ []) :
    ∃ v, s.Scanned base m v ∧ v.SbodLeaves r1 (t.sbodInput r1) ∧ s.SbodGoes a m behind (t.sbodInput r1) := by
  have member := getD_mod_mem some_ t.free.toNat
  unfold State.sbodInput
  generalize List.getD _ _ 0 = port at member ⊢
  have lt : port < 16 * s.params.asyncGroups := by
    rw [State.inputPorts, List.mem_filter, List.mem_range, h.stores.params] at member
    exact member.1
  have calm : (t.tick.setSba port false).pend.mac = false := by
    rw [(setSba_stores (fun _ => False) t.tick port false).pend]
    exact hm
  refine ⟨t.tick.setSba port false, h.tick.setSba port false, sbodFound_leaves calm port,
    .inr (.inl ⟨?_, foundPort_names (by exact calm) fun _ => lt⟩)⟩
  rw [State.setPc_pc, h.stores.pc]

include hg in
/-- The third function: output, or done (R371). -/
theorem sbodOutput_value {v : State} {behind : Nat} (h : s.Scanned base behind v) (hm : v.pend.mac = false) :
    v.SbodLeaves r1 (v.sbodOutput r1 (v.outputPorts ((List.range s.params.asyncGroups).map a))) ∧
      s.SbodGoes a behind behind (v.sbodOutput r1 (v.outputPorts ((List.range s.params.asyncGroups).map a))) := by
  have ports {port : Nat} : port ∈ v.outputPorts ((List.range s.params.asyncGroups).map a) ↔
      (port < 16 * s.params.asyncGroups ∧ (a (port / 16)).getMsbD (port % 16) = true) ∧ s.tamOn port = true := by
    rw [State.outputPorts, List.mem_filter, mem_portsOf, h.tamOn]
  generalize v.outputPorts _ = l at ports ⊢
  unfold State.sbodOutput
  by_cases none_ : l = []
  · rw [if_pos none_]
    refine ⟨(sbodWorks_leaves (v := v.tick) hm).ofTick, .inl ⟨by rw [State.setPc_pc, h.stores.pc], rfl,
      fun port lt pending on => ?_⟩⟩
    have := ports.2 ⟨⟨lt, pending⟩, on⟩
    rw [none_] at this
    cases this
  · rw [if_neg none_]
    obtain ⟨⟨lt, pending⟩, on⟩ := ports.1 (getD_mod_mem none_ v.free.toNat)
    generalize List.getD _ _ 0 = port at lt pending on ⊢
    have value : (((((v.tick.sbodWorks r1).foundPort port).setPc (nextAddr v.pc 10)).reg 14#4).toNat) = port :=
      foundPort_toNat (s := v.tick.sbodWorks r1) hm (by omega)
    refine ⟨(sbodFound_leaves (v := v.tick) hm port).ofTick, .inr (.inr ⟨by rw [State.setPc_pc, h.stores.pc], rfl,
      foundPort_names (s := v.tick.sbodWorks r1) hm fun _ => lt, ?_, ?_⟩)⟩
    · rw [value]
      exact pending
    · rw [value]
      exact on

include c hg in
/-- SBOD where the constants stand: what its scanner has done, what it leaves besides, and where it goes. -/
theorem sbodScan_value
    (array : ∀ k, k < s.params.asyncGroups → s.dataHalf (s.reg r2 + BitVec.ofNat 32 (2 * k)) = some (a k) ∧
      ∀ j, j < 0x200 → evenAddr (programAddr (s.reg r2 + BitVec.ofNat 32 (2 * k))) ≠ evenAddr (controlAt base j)) :
    ∃ (t v : State) (m : Nat), sbodScan r1 r2 s = .ok () t ∧ m ≤ s.stepsBehind ∧ s.Scanned base m v ∧
      v.SbodLeaves r1 t ∧ s.SbodGoes a m s.stepsBehind t := by
  have within : s.tick.free.toNat % (s.stepsBehind + 1) ≤ s.stepsBehind :=
    Nat.le_of_lt_succ (Nat.mod_lt _ (Nat.succ_pos _))
  generalize hm : s.tick.free.toNat % (s.stepsBehind + 1) = m at within
  obtain ⟨t, first, scanned⟩ := scanSteps_scanned c.tick.tick hg s.freeBit m
  have sofar := scanned.ofTick.ofTick
  have calm : ¬t.pend.mac = true := by
    rw [(sofar.control c).clear]
    exact Bool.false_ne_true
  have start : sbodScan r1 r2 s = if t.freeBit = true ∧ t.inputPorts ≠ [] then .ok () (t.tick.sbodInput r1)
      else (scanSteps s.freeBit (s.stepsBehind - m) t.tick).bind fun _ u =>
        (readHalves (portArray s.params (s.reg r2)) u).bind fun hs v =>
          if v.pend.mac then sbodOpen r1 r2 v else .ok () (v.sbodOutput r1 (v.outputPorts hs)) := by
    rw [sbodScan]
    rw [hm, first, Res.bind_ok, if_neg calm]
  rw [start]
  by_cases input : t.freeBit = true ∧ t.inputPorts ≠ []
  · rw [if_pos input]
    obtain ⟨v, hv, leaves, goes⟩ := sbodInput_value (r1 := r1) (a := a) (behind := s.stepsBehind) sofar.tick
      (sofar.control c).clear input.2
    exact ⟨_, v, m, rfl, within, hv, leaves, goes⟩
  · obtain ⟨u, second, more⟩ := scanSteps_scanned (sofar.tick.control c)
      (by rw [sofar.tick.stores.params]; exact hg) s.freeBit (s.stepsBehind - m)
    have whole := sofar.tick.trans more
    rw [Nat.add_sub_cancel' within] at whole
    have clear := (whole.control c).clear
    have read := readHalves_value (s := u) clear fun k hk =>
      (whole.stores.dataHalf (translate_unrelocated c.unrelocated _ _) (not_inControl (array k hk).2).1
        (not_inControl (array k hk).2).2).trans (array k hk).1
    obtain ⟨leaves, goes⟩ := sbodOutput_value (r1 := r1) (a := a) hg whole clear
    refine ⟨_, u, s.stepsBehind, ?_, le_rfl, whole, leaves, goes⟩
    rw [if_neg input, second, Res.bind_ok, portArray, read, Res.bind_ok, clear]
    rfl

end Scan

section Sbod

variable {s : State} {base : Word} {r1 r2 : Reg} {a : Nat → Half} (ha : s.psw.a = true)
  (he : s.params.enhancedAsync = true) (hg : s.params.asyncGroups ≤ 16)

include ha he hg

theorem execSbod_open (hp : s.psw.rp = false) (h : s.asyncReady = false)
    (array : ∀ k, k < s.params.asyncGroups → s.dataHalf (s.reg r2 + BitVec.ofNat 32 (2 * k)) = some (a k)) :
    ∃ t, execSbod r1 r2 s = .next t ∧
      (t.pc = nextAddr s.pc 2 ∨ (t.pc = nextAddr s.pc 6 ∧ t.NamesPort s.params.asyncGroups) ∨
        (t.pc = nextAddr s.pc 10 ∧ t.NamesPort s.params.asyncGroups ∧
          (a ((t.reg 14#4).toNat / 16)).getMsbD ((t.reg 14#4).toNat % 16) = true)) := by
  obtain ⟨t, done, clear, goes⟩ := sbodOpen_value (s := s.begin) (r1 := r1) rfl hp hg array
  refine ⟨t, ?_, goes⟩
  rw [execSbod, asyncOnly_value ha he]
  have notReady : s.begin.asyncReady = false := h
  refine transfer_ok ?_ clear
  rw [notReady]
  exact done

theorem execSbod_ready (c : s.begin.Control base 0x400) (h : s.asyncReady = true)
    (array : ∀ k, k < s.params.asyncGroups → s.dataHalf (s.reg r2 + BitVec.ofNat 32 (2 * k)) = some (a k) ∧
      ∀ j, j < 0x200 → evenAddr (programAddr (s.reg r2 + BitVec.ofNat 32 (2 * k))) ≠ evenAddr (controlAt base j)) :
    ∃ (t v : State) (m : Nat), execSbod r1 r2 s = .next t ∧ m ≤ s.stepsBehind ∧ s.begin.Scanned base m v ∧
      v.SbodLeaves r1 t ∧ s.begin.SbodGoes a m s.stepsBehind t := by
  obtain ⟨t, v, m, done, within, scanned, leaves, goes⟩ :=
    sbodScan_value (s := s.begin) (r1 := r1) (r2 := r2) c hg array
  refine ⟨t, v, m, ?_, within, scanned, leaves, goes⟩
  rw [execSbod, asyncOnly_value ha he]
  have ready : s.begin.asyncReady = true := h
  refine transfer_ok ?_ leaves.clear
  rw [ready]
  exact done

end Sbod

end Sys2Proof.Machine

/-! # The ring and the tables of the async microcode

Where the constants of R400 stand, the cells of the ring are behind the control storage; the bits XMIT writes there
(R402, R404, R405). -/

namespace Sys2Proof.Machine

/-! ## The constants (R400, R401) -/

/-- The addresses and the size of the ring, where the constants stand. -/
theorem asyncReady_constants {s : State} (h : s.asyncReady = true) :
    s.regIn 1#4 13#4 = BitVec.ofNat 32 (asyncRingBytes s.params) ∧
      s.regIn 1#4 14#4 = s.regIn 1#4 5#4 + 0x600#32 + BitVec.ofNat 32 (asyncRingBytes s.params) ∧
      s.regIn 2#4 7#4 = s.regIn 1#4 5#4 + 0x600#32 + BitVec.ofNat 32 (asyncRingBytes s.params) ∧
      s.regIn 2#4 13#4 = BitVec.ofNat 32 (asyncRingBytes s.params) ∧
      s.regIn 2#4 14#4 = packed (4 * asyncFiveFrames s.params) (asyncFiveFrames s.params) ∧
      s.regIn 2#4 15#4 = s.regIn 1#4 5#4 + 0x400#32 := by
  simp only [State.asyncReady, Bool.and_eq_true, beq_iff_eq] at h
  obtain ⟨⟨⟨⟨⟨⟨⟨⟨⟨⟨-, -⟩, -⟩, size1⟩, end1⟩, -⟩, end2⟩, -⟩, size2⟩, five⟩, lct⟩ := h
  exact ⟨size1, end1, end2, size2, five, lct⟩

theorem asyncRingBytes_eq (p : Config.Params) : asyncRingBytes p = 2 * p.asyncGroups * 2118 := by
  simp only [asyncRingBytes, asyncFrameBytes, asyncFiveFrames]
  omega

/-- What an instruction for one port expects (R372, R374). -/
theorem portReady_iff {s : State} {rate : Word} :
    s.portReady rate = true ↔ s.asyncReady = true ∧ (s.reg 14#4).toNat < 16 * s.params.asyncGroups ∧
      s.reg 13#4 = s.reg 14#4 + s.reg 14#4 ∧ rate.toNat < 16 := by
  simp only [State.portReady, Bool.and_eq_true, decide_eq_true_eq, beq_iff_eq, and_assoc]

section Port

variable {s : State} {rate : Word} (h : s.portReady rate = true) (hg : s.params.asyncGroups ≤ 16)

include h

/-- Twice the port. -/
theorem portReady_double : s.reg 13#4 = BitVec.ofNat 32 (2 * (s.reg 14#4).toNat) := by
  obtain ⟨-, -, double, -⟩ := portReady_iff.1 h
  rw [double, Nat.two_mul, BitVec.ofNat_add, BitVec.ofNat_toNat, BitVec.setWidth_eq]

include hg

/-- The registers of sets 1 and 2 hold constants where the port is to stand, so neither set is selected. -/
theorem portReady_set : s.psw.rs ≠ 1#4 ∧ s.psw.rs ≠ 2#4 := by
  obtain ⟨ready, lt, -, -⟩ := portReady_iff.1 h
  have double := congrArg BitVec.toNat (portReady_double h)
  obtain ⟨size1, -, -, size2, -, -⟩ := asyncReady_constants ready
  have clash (size : s.reg 13#4 = BitVec.ofNat 32 (asyncRingBytes s.params)) : False := by
    rw [size, asyncRingBytes_eq, BitVec.toNat_ofNat, BitVec.toNat_ofNat,
      Nat.mod_eq_of_lt (show 2 * s.params.asyncGroups * 2118 < 2 ^ 32 by omega),
      Nat.mod_eq_of_lt (show 2 * (s.reg 14#4).toNat < 2 ^ 32 by omega)] at double
    omega
  constructor
  · intro e
    exact clash (by rw [State.reg, e, size1])
  · intro e
    exact clash (by rw [State.reg, e, size2])

end Port

/-! ## The cells of the ring (R402) -/

/-- Where the cell of a group at an offset is, counted from the beginning of the control storage. -/
def cellPlace (p : Config.Params) (group offset : Nat) : Nat :=
  0x600 + (offset % asyncRingBytes p / (2 * p.asyncGroups) * (2 * p.asyncGroups) + 2 * group)

theorem cellPlace_even (p : Config.Params) (group offset : Nat) : cellPlace p group offset % 2 = 0 := by
  rw [cellPlace, Nat.mul_left_comm]
  omega

/-- The cells of the groups are in the ring. -/
theorem cellPlace_lt {p : Config.Params} {group : Nat} (hg : group < p.asyncGroups) (offset : Nat) :
    cellPlace p group offset + 1 < 0x600 + asyncRingBytes p := by
  have pos : 0 < 2 * p.asyncGroups := by omega
  have area : offset % asyncRingBytes p / (2 * p.asyncGroups) < 2118 := by
    rw [Nat.div_lt_iff_lt_mul pos, Nat.mul_comm, ← asyncRingBytes_eq]
    exact Nat.mod_lt _ (by rw [asyncRingBytes_eq]; omega)
  have := Nat.mul_le_mul_right (2 * p.asyncGroups) (Nat.le_of_lt_succ area)
  rw [cellPlace, asyncRingBytes_eq] at *
  omega

theorem ringCell_eq {s : State} (h : s.asyncReady = true) (group offset : Nat) :
    s.ringCell group offset = s.regIn 1#4 5#4 + BitVec.ofNat 32 (cellPlace s.params group offset) := by
  obtain ⟨-, -, end_, size, -, -⟩ := asyncReady_constants h
  rw [State.ringCell, end_, size, BitVec.add_sub_cancel, cellPlace, BitVec.ofNat_add 0x600, ← BitVec.add_assoc]

/-- The bytes of a halfword of the control storage, whose beginning may be odd. -/
theorem inControl_of_between (base : Word) {k n : Nat} (hk : 1 ≤ k) (hn : k + 1 < n) :
    InControl base n (evenBase (evenAddr (controlAt base k))) ∧
      InControl base n (evenBase (evenAddr (controlAt base k)) + 1) := by
  rw [evenBase_evenAddr, evenBase]
  simp only [InControl, controlAt_toNat]
  rcases Nat.mod_two_eq_zero_or_one (base.toNat + k) with even | odd
  · exact ⟨⟨k, by omega, by omega⟩, ⟨k + 1, by omega, by omega⟩⟩
  · exact ⟨⟨k - 1, by omega, by omega⟩, ⟨k, by omega, by omega⟩⟩

/-- Two even places are different halfwords. -/
theorem controlAt_apart (base : Word) {j k : Nat} (hj : j % 2 = 0) (hk : k % 2 = 0) (lj : j < 2 ^ 20)
    (lk : k < 2 ^ 20) (ne : j ≠ k) : evenBase (controlAt base j) ≠ evenBase (controlAt base k) := by
  rw [evenBase, evenBase, controlAt_toNat, controlAt_toNat]
  omega

/-! ## Bits of halfwords (R372) -/

theorem Memory.half_congr {m : Memory} {a b : Addr} (h : evenBase a = evenBase b) : m.half a = m.half b := by
  rw [Memory.half, Memory.half, h]

theorem Memory.half_evenAddr (m : Memory) (a : Addr) : m.half (evenAddr a) = m.half a :=
  Memory.half_congr (evenBase_evenAddr a)

theorem Memory.setHalf_evenAddr (m : Memory) (a : Addr) (h : Half) : m.setHalf (evenAddr a) h = m.setHalf a h := by
  rw [Memory.setHalf, Memory.setHalf, evenBase_evenAddr]

/-- Turning a bit on turns no bit off. -/
theorem withBit_true {k : Nat} (hk : k < 16) (h : Half) {j : Nat} (hj : j < 16) :
    (withBit k true h).getMsbD j = (h.getMsbD j || decide (j = k)) := by
  rw [withBit, if_pos rfl, mask_eq_twoPow hk, BitVec.getMsbD_or]
  congr 1
  rw [BitVec.getMsbD_eq_getLsbD, BitVec.getLsbD_twoPow]
  simp only [hj, decide_true, Bool.true_and]
  by_cases e : j = k
  · simp [e]
    omega
  · simp [e]
    omega

/-- Memory in which bit `k` of some halfwords has been turned on, and nothing else has changed. -/
structure Memory.Marked (k : Nat) (cells : List Addr) (m m' : Memory) : Prop where
  wf : m'.wf = true
  outside : ∀ x, (∀ a ∈ cells, Outside x a) → m'.read x = m.read x
  kept : ∀ a, (m.half a).getMsbD k = true → (m'.half a).getMsbD k = true
  marked : ∀ a ∈ cells, (m'.half a).getMsbD k = true

theorem Memory.marked_nil {m : Memory} (hw : m.wf = true) (k : Nat) : Memory.Marked k [] m m :=
  ⟨hw, fun _ _ => rfl, fun _ => id, fun _ h => by cases h⟩

/-- One bit turned on. -/
theorem Memory.marked_setHalf {m : Memory} (hw : m.wf = true) {k : Nat} (hk : k < 16) (a : Addr) :
    Memory.Marked k [a] m (m.setHalf a (withBit k true (m.half a))) := by
  have there : ((m.setHalf a (withBit k true (m.half a))).half a).getMsbD k = true := by
    rw [Memory.half_setHalf_same hw, withBit_true hk _ hk]
    simp
  refine ⟨Memory.wf_setHalf hw, fun x out => Memory.read_setHalf_outside (out a (by simp)) _, fun x on => ?_,
    fun x hx => ?_⟩
  · by_cases same : evenBase x = evenBase a
    · rw [Memory.half_congr same, there]
    · rw [Memory.half_setHalf_other same]
      exact on
  · rw [List.mem_singleton.1 hx, there]

theorem Memory.Marked.trans {k : Nat} {l l' : List Addr} {m m' m'' : Memory} (h : Memory.Marked k l m m')
    (h' : Memory.Marked k l' m' m'') : Memory.Marked k (l ++ l') m m'' where
  wf := h'.wf
  outside x out := (h'.outside x fun a ha => out a (List.mem_append_right _ ha)).trans
    (h.outside x fun a ha => out a (List.mem_append_left _ ha))
  kept a on := h'.kept a (h.kept a on)
  marked a ha := (List.mem_append.1 ha).elim (fun ha => h'.kept a (h.marked a ha)) (h'.marked a)

section WriteBits

variable {s : State} {k : Nat} (hm : s.pend.mac = false) (hp : s.psw.rp = false) (hw : s.mem.wf = true) (hk : k < 16)

include hm hp hw hk

theorem writeBit_value {ea : Word} (plain : isPlain s.params (programAddr ea) = true) :
    ∃ m, writeBit ea k true s = .ok () (s.setMem m) ∧ Memory.Marked k [programAddr ea] s.mem m := by
  have even : isPlain s.params (evenAddr (programAddr ea)) = true := by rw [isPlain_evenAddr, plain]
  refine ⟨_, ?_, Memory.marked_setHalf hw hk (programAddr ea)⟩
  rw [writeBit, readHalf_value hm (dataHalf_memory hp even), Res.bind_ok,
    writeHalf_plain hm (storesTo_unrelocated hp even), Memory.half_evenAddr, Memory.setHalf_evenAddr]

theorem writeBits_value {cells : List Word} (plain : ∀ ea ∈ cells, isPlain s.params (programAddr ea) = true) :
    ∃ m, writeBits k (cells.map fun ea => (ea, true)) s = .ok () (s.setMem m) ∧
      Memory.Marked k (cells.map programAddr) s.mem m := by
  induction cells generalizing s with
  | nil => exact ⟨s.mem, rfl, Memory.marked_nil hw k⟩
  | cons ea rest ih =>
    rw [List.forall_mem_cons] at plain
    obtain ⟨m, first, one⟩ := writeBit_value hm hp hw hk plain.1
    obtain ⟨m', others, more⟩ := ih (s := s.setMem m) hm hp one.wf plain.2
    refine ⟨m', ?_, one.trans more⟩
    rw [List.map_cons, writeBits, first, Res.bind_ok, others]
    rfl

end WriteBits

/-! ## The transitions of a character (R372, R402) -/

/-- The level of the line before a character and at its bauds: marking, the start-baud, the character, the
stop-baud. -/
def charLevel (rightFirst : Bool) (w : Word) (k : Nat) : Bool :=
  if k = 0 then true else if k = 1 then false else if k = 10 then true
  else w.getLsbD (if rightFirst then k - 2 else 9 - k)

theorem charBauds_getD (rightFirst : Bool) (w : Word) {j : Nat} (hj : j < 10) :
    (charBauds rightFirst (w.setWidth 8)).getD j true = charLevel rightFirst w (j + 1) := by
  interval_cases j <;> cases rightFirst <;> simp [charBauds, charLevel, List.range_succ]

/-- The bauds at which the line changes, by its levels. -/
theorem mem_charEdges_levels {rightFirst : Bool} {w : Word} {j : Nat} :
    j ∈ charEdges (charBauds rightFirst (w.setWidth 8)) ↔
      j < 10 ∧ charLevel rightFirst w (j + 1) ≠ charLevel rightFirst w j := by
  rw [mem_charEdges]
  have ten : (charBauds rightFirst (w.setWidth 8)).length = 10 := by simp [charBauds]
  rw [ten]
  refine and_congr_right fun hj => ?_
  rw [charBauds_getD _ _ hj]
  cases j with
  | zero => rfl
  | succ j => rw [List.getD_cons_succ, charBauds_getD _ _ (by omega)]

/-- The edges that are marked: those before the character's end, or all. -/
def markedEdges (rightFirst past : Bool) (w : Word) (width baud : Nat) : List Nat :=
  (charEdges (charBauds rightFirst (w.setWidth 8))).filter fun j => past || decide (j * baud < width)

theorem mem_markedEdges {rightFirst past : Bool} {w : Word} {width baud j : Nat} :
    j ∈ markedEdges rightFirst past w width baud ↔
      j < 10 ∧ charLevel rightFirst w (j + 1) ≠ charLevel rightFirst w j ∧ (past = true ∨ j * baud < width) := by
  rw [markedEdges, List.mem_filter, mem_charEdges_levels, Bool.or_eq_true, decide_eq_true_eq, and_assoc]

theorem transitions_eq (s : State) (group start width baud : Nat) (past rightFirst : Bool) (w : Word) :
    s.transitions group start width baud past (charBauds rightFirst (w.setWidth 8)) =
      ((markedEdges rightFirst past w width baud).map fun j =>
        s.ringCell group (outputOffset s.params (start + j * baud))).map fun ea => (ea, true) := by
  rw [State.transitions, List.map_map]
  rfl

end Sys2Proof.Machine

/-! # XMIT

The transitions of a character, TAM, and LCTIME, stored one after another (R372, R404). -/

namespace Sys2Proof.Machine

/-! ## TAM (R372) -/

section TamOff

variable {s : State} {port : Nat} (hm : s.pend.mac = false) (hp : s.psw.rp = false) (hw : s.mem.wf = true)
  (plain : ∀ frame, isPlain s.params (programAddr (s.phaseFiveCell (port / 16) frame)) = true)

include hm hp hw plain

/-- TAM of the port turned off, and a bit in a phase 5 cell. -/
theorem turnTamOff_value :
    ∃ frame m, turnTamOff port s = .ok () ((s.tick.setMem m).tick.setRegIn 3#4 (tamRegister s.params (port / 16))
        (tamOff (port % 16) (s.regIn 3#4 (tamRegister s.params (port / 16))))) ∧
      Memory.Marked (port % 16) [programAddr (s.phaseFiveCell (port / 16) frame)] s.mem m := by
  obtain ⟨m, done, marked⟩ := writeBit_value (s := s.tick) hm hp hw (Nat.mod_lt port (show 0 < 16 by decide))
    (plain s.free.toNat)
  refine ⟨s.free.toNat, m, ?_, marked⟩
  refine Res.bind_eq_ok.2 ⟨(), _, done, ?_⟩
  have calm : (s.tick.setMem m).pend.mac = false := hm
  rw [calm]
  rfl

/-- What stands before LCTIME is written: TAM turned off, or nothing done. -/
theorem tamOff_or_not (off : Prop) [Decidable off] :
    ∃ y cells, (if off then turnTamOff port s else .ok () s) = .ok () y ∧
      Memory.Marked (port % 16) cells s.mem y.mem ∧
      (∀ a ∈ cells, off ∧ ∃ frame, a = programAddr (s.phaseFiveCell (port / 16) frame)) ∧
      y.pend = s.pend ∧ y.psw = s.psw ∧ y.params = s.params ∧
      (∀ k r, ¬(k = 3#4 ∧ r = tamRegister s.params (port / 16)) → y.regIn k r = s.regIn k r) ∧
      y.regIn 3#4 (tamRegister s.params (port / 16)) =
        if off then tamOff (port % 16) (s.regIn 3#4 (tamRegister s.params (port / 16)))
        else s.regIn 3#4 (tamRegister s.params (port / 16)) := by
  by_cases h : off
  · obtain ⟨frame, m, done, marked⟩ := turnTamOff_value hm hp hw plain
    refine ⟨_, _, (if_pos h).trans done, marked, fun a ha => ⟨h, frame, List.mem_singleton.1 ha⟩, rfl, rfl, rfl,
      fun k r hr => State.regIn_setRegIn_other _ _ _ _ _ _ hr, ?_⟩
    rw [if_pos h]
    exact State.regIn_setRegIn_same _ _ _ _
  · exact ⟨s, [], if_neg h, Memory.marked_nil hw _, List.forall_mem_nil _, rfl, rfl, rfl, fun _ _ _ => rfl,
      (if_neg h).symm⟩

end TamOff

/-! ## The instruction -/

/-- A character has been transmitted for a port: the cells `edges` are marked, LCTIME holds a time, TAM is off if
`off`, and nothing else of memory has changed but perhaps a phase 5 cell (R372). -/
structure State.Transmitted (s : State) (r1 r2 : Reg) (edges : List Addr) (off : Prop) [Decidable off] (time : Half)
    (t : State) : Prop where
  clear : t.pend.mac = false
  marks : ∀ a ∈ edges, (t.mem.half a).getMsbD ((s.reg 14#4).toNat % 16) = true
  outside : ∀ x, Outside x (programAddr s.lctimeAddr) → (∀ a ∈ edges, Outside x a) →
    (off → ∀ frame, Outside x (programAddr (s.phaseFiveCell ((s.reg 14#4).toNat / 16) frame))) →
    t.mem.read x = s.mem.read x
  lctime : t.mem.half (programAddr s.lctimeAddr) = time
  others : ∀ k r, k ≠ 1#4 → k ≠ 2#4 → ¬(k = 3#4 ∧ r = tamRegister s.params ((s.reg 14#4).toNat / 16)) →
    ¬(k = s.psw.rs ∧ (r = r1 ∨ r = r2)) → t.regIn k r = s.regIn k r
  tam : s.psw.rs ≠ 3#4 → t.regIn 3#4 (tamRegister s.params ((s.reg 14#4).toNat / 16)) =
    if off then tamOff ((s.reg 14#4).toNat % 16) (s.regIn 3#4 (tamRegister s.params ((s.reg 14#4).toNat / 16)))
    else s.regIn 3#4 (tamRegister s.params ((s.reg 14#4).toNat / 16))

/-- The registers and the condition code XMIT leaves open (R372). -/
def State.xmitWorks (s : State) (r1 r2 : Reg) : State :=
  ((((s.tick.freeRegs workedByXmit).freeReg r1).freeReg r2).freeCc).tick

theorem xmitWorks_regIn {s : State} {r1 r2 : Reg} {k : Nib} {r : Reg}
    (idle : workedByXmit (16 * k.toNat + r.toNat) = false) (h : ¬(k = s.psw.rs ∧ (r = r1 ∨ r = r2))) :
    (s.xmitWorks r1 r2).regIn k r = s.regIn k r := by
  have first : ((s.tick.freeRegs workedByXmit).freeReg r1).regIn k r = (s.tick.freeRegs workedByXmit).regIn k r :=
    State.regIn_freeReg (s := s.tick.freeRegs workedByXmit) fun e => h ⟨e.1, .inl e.2⟩
  have second : (s.xmitWorks r1 r2).regIn k r = ((s.tick.freeRegs workedByXmit).freeReg r1).regIn k r :=
    State.regIn_freeReg (s := (s.tick.freeRegs workedByXmit).freeReg r1) fun e => h ⟨e.1, .inr e.2⟩
  rw [second, first, State.regIn_freeRegs idle]
  rfl

theorem ringCell_congr {s t : State} (hp : t.params = s.params) (h7 : t.regIn 2#4 7#4 = s.regIn 2#4 7#4)
    (h13 : t.regIn 2#4 13#4 = s.regIn 2#4 13#4) (group offset : Nat) :
    t.ringCell group offset = s.ringCell group offset := by
  rw [State.ringCell, State.ringCell, hp, h7, h13]

section Xmit

variable {s : State} {r1 r2 : Reg} {rate : Word} (ready : s.portReady rate = true) (hg : s.params.asyncGroups ≤ 16)
  (plain : ∀ k, k < 0x600 + asyncRingBytes s.params → isPlain s.params (controlAt (s.regIn 1#4 5#4) k) = true)

include ready

theorem lctimeAddr_eq : s.lctimeAddr = s.regIn 1#4 5#4 + BitVec.ofNat 32 (0x400 + 2 * (s.reg 14#4).toNat) := by
  obtain ⟨async, -, -, -⟩ := portReady_iff.1 ready
  obtain ⟨-, -, -, -, -, lct⟩ := asyncReady_constants async
  rw [State.lctimeAddr, lct, portReady_double ready, BitVec.add_assoc, BitVec.ofNat_add]

theorem group_lt : (s.reg 14#4).toNat / 16 < s.params.asyncGroups := by
  obtain ⟨-, lt, -, -⟩ := portReady_iff.1 ready
  omega

theorem cell_eq (offset : Nat) :
    programAddr (s.ringCell ((s.reg 14#4).toNat / 16) offset) =
      controlAt (s.regIn 1#4 5#4) (cellPlace s.params ((s.reg 14#4).toNat / 16) offset) := by
  rw [ringCell_eq (portReady_iff.1 ready).1]
  rfl

include plain in
theorem cell_plain (offset : Nat) :
    isPlain s.params (programAddr (s.ringCell ((s.reg 14#4).toNat / 16) offset)) = true := by
  rw [cell_eq ready]
  have := cellPlace_lt (group_lt ready) offset
  exact plain _ (by omega)

include hg

/-- LCTIME is no cell of the ring. -/
theorem cell_ne_lctime (offset : Nat) :
    evenBase (programAddr (s.ringCell ((s.reg 14#4).toNat / 16) offset)) ≠ evenBase (programAddr s.lctimeAddr) := by
  rw [cell_eq ready, lctimeAddr_eq ready]
  obtain ⟨-, lt, -, -⟩ := portReady_iff.1 ready
  have bound := cellPlace_lt (group_lt ready) offset
  have ring := asyncRingBytes_eq s.params
  have low : 0x600 ≤ cellPlace s.params ((s.reg 14#4).toNat / 16) offset := Nat.le_add_right _ _
  exact controlAt_apart _ (cellPlace_even _ _ _) (by omega) (by omega) (by omega) (by omega)

variable (hm : s.pend.mac = false) (hp : s.psw.rp = false) (hw : s.mem.wf = true)

include plain hm hp hw

/-- The three stores of XMIT, from the state with its open registers. -/
theorem transmit_stores (edges : List Nat) (off : Prop) [Decidable off] (time : Half) :
    ∃ t, ((writeBits ((s.reg 14#4).toNat % 16)
        ((edges.map fun offset => s.ringCell ((s.reg 14#4).toNat / 16) offset).map fun ea => (ea, true))
        (s.xmitWorks r1 r2)).bind fun _ x =>
          (if off then turnTamOff (s.reg 14#4).toNat x else .ok () x).bind fun _ y =>
            writeHalf s.lctimeAddr time y) = .ok () t ∧
      s.Transmitted r1 r2 (edges.map fun offset => programAddr (s.ringCell ((s.reg 14#4).toNat / 16) offset)) off
        time t := by
  generalize hport : (s.reg 14#4).toNat = port
  have cellsPlain (offset : Nat) : isPlain s.params (programAddr (s.ringCell (port / 16) offset)) = true :=
    hport ▸ cell_plain ready plain offset
  obtain ⟨-, not2⟩ := portReady_set ready hg
  have idle (r : Reg) (h : 5 ≤ r.toNat) : (s.xmitWorks r1 r2).regIn 2#4 r = s.regIn 2#4 r :=
    xmitWorks_regIn (workedByXmit_of_async (workedByAsync_high (.inl h))) fun e => not2 e.1.symm
  have bit : port % 16 < 16 := Nat.mod_lt _ (by decide)
  obtain ⟨m, first, marked⟩ := writeBits_value (s := s.xmitWorks r1 r2)
    (cells := edges.map fun offset => s.ringCell (port / 16) offset) hm hp hw bit (by
      rw [List.forall_mem_map]
      exact fun offset _ => cellsPlain offset)
  let x := (s.xmitWorks r1 r2).setMem m
  have phaseFive (frame : Nat) : x.phaseFiveCell (port / 16) frame = s.phaseFiveCell (port / 16) frame :=
    ringCell_congr (s := s) (t := x) rfl (idle 7#4 (by decide)) (idle 13#4 (by decide)) _ _
  obtain ⟨y, cells, second, marked', five, pend, psw, params, others, tam⟩ := tamOff_or_not (s := x) (port := port)
    hm hp marked.wf (fun frame => by rw [phaseFive]; exact cellsPlain _) off
  have lctime : s.StoresTo s.lctimeAddr (evenAddr (programAddr s.lctimeAddr)) := by
    refine storesTo_unrelocated hp ?_
    obtain ⟨-, lt, -, -⟩ := portReady_iff.1 ready
    rw [isPlain_evenAddr, lctimeAddr_eq ready]
    exact plain _ (by omega)
  have third : writeHalf s.lctimeAddr time y =
      .ok () (y.setMem (y.mem.setHalf (programAddr s.lctimeAddr) time)) := by
    rw [← Memory.setHalf_evenAddr]
    refine writeHalf_plain (by rw [pend]; exact hm) ⟨?_, by rw [params]; exact lctime.2⟩ _
    exact translate_unrelocated (by rw [psw]; exact hp) _ _
  refine ⟨y.setMem (y.mem.setHalf (programAddr s.lctimeAddr) time), ?_, ?_⟩
  · rw [first, Res.bind_ok, second, Res.bind_ok, third]
  subst hport
  refine ⟨by rw [State.setMem_pend, pend]; exact hm, fun a ha => ?_, fun z away edge frame => ?_,
    Memory.half_setHalf_same marked'.wf, fun k r h1 h2 h3 h => ?_, fun h3 => ?_⟩
  · obtain ⟨offset, member, rfl⟩ := List.mem_map.1 ha
    rw [State.setMem_mem, Memory.half_setHalf_other (cell_ne_lctime ready hg offset)]
    refine marked'.kept _ (marked.marked _ ?_)
    exact List.mem_map.2 ⟨_, List.mem_map.2 ⟨offset, member, rfl⟩, rfl⟩
  · rw [State.setMem_mem, Memory.read_setHalf_outside away]
    refine (marked'.outside z fun a ha => ?_).trans (marked.outside z fun a ha => ?_)
    · obtain ⟨h, n, rfl⟩ := five a ha
      rw [phaseFive]
      exact frame h n
    · rw [List.map_map] at ha
      exact edge a ha
  · refine (others k r h3).trans ?_
    exact xmitWorks_regIn (workedByXmit_of_async (workedByAsync_eq_false h1 h2)) h
  · have kept : x.regIn 3#4 (tamRegister s.params ((s.reg 14#4).toNat / 16)) =
        s.regIn 3#4 (tamRegister s.params ((s.reg 14#4).toNat / 16)) :=
      xmitWorks_regIn (workedByXmit_of_async (workedByAsync_eq_false (by decide) (by decide))) fun e => h3 e.1.symm
    rw [← kept]
    exact tam

end Xmit

/-- F5 in bytes of the ring: five frames of twelve areas, of a byte for each group. -/
theorem asyncFiveFrames_eq (p : Config.Params) : asyncFiveFrames p = 60 * p.asyncGroups := by
  rw [asyncFiveFrames, asyncFrameBytes]
  omega

/-- A character that begins `delay` past RGX5 goes to the edges of its bauds, and ends `width` later (R372). -/
def State.Sends (s : State) (r1 r2 : Reg) (rightFirst past : Bool) (delay width baud : Nat) (time : Half) (t : State) :
    Prop :=
  s.Transmitted r1 r2 (((markedEdges rightFirst past (s.reg 0#4) width baud).map fun j =>
      outputOffset s.params (s.ringStart + delay + j * baud)).map fun offset =>
        programAddr (s.ringCell ((s.reg 14#4).toNat / 16) offset))
    (3 * (60 * s.params.asyncGroups) < delay + width) time t

section Send

variable {s t : State} {r1 r2 : Reg} {rightFirst past : Bool} {delay width baud : Nat} {time : Half}

/-- XMIT changes the ring and LCTIME alone in memory. -/
theorem State.Sends.area (h : s.Sends r1 r2 rightFirst past delay width baud time t) (ready : s.xmitReady = true)
    (hg : s.params.asyncGroups ≤ 16) {x : Nat}
    (out : ¬InControl (s.regIn 1#4 5#4) (0x600 + asyncRingBytes s.params) x) : t.mem.read x = s.mem.read x := by
  have place {k : Nat} (h1 : 1 ≤ k) (h2 : k + 1 < 0x600 + asyncRingBytes s.params) :
      Outside x (controlAt (s.regIn 1#4 5#4) k) := by
    obtain ⟨left, right⟩ := inControl_of_between (s.regIn 1#4 5#4) h1 h2
    rw [evenBase_evenAddr] at left right
    exact ⟨fun e => out (e ▸ left), fun e => out (e ▸ right)⟩
  have cell (offset : Nat) : Outside x (programAddr (s.ringCell ((s.reg 14#4).toNat / 16) offset)) := by
    rw [cell_eq (rate := s.reg 2#4) ready]
    have low : 0x600 ≤ cellPlace s.params ((s.reg 14#4).toNat / 16) offset := Nat.le_add_right _ _
    exact place (by omega) (cellPlace_lt (group_lt (rate := s.reg 2#4) ready) offset)
  refine Transmitted.outside h x ?_ (List.forall_mem_map.2 fun offset _ => cell offset) fun _ frame => cell _
  rw [lctimeAddr_eq (rate := s.reg 2#4) ready]
  obtain ⟨-, lt, -, -⟩ := portReady_iff.1 ready
  exact place (by omega) (by omega)

end Send

section Transmit

variable {s : State} {r1 r2 : Reg} {lctime width baud : Half} (ready : s.xmitReady = true)
  (hg : s.params.asyncGroups ≤ 16) (hp : s.psw.rp = false) (hw : s.mem.wf = true)
  (plain : ∀ k, k < 0x600 + asyncRingBytes s.params → isPlain s.params (controlAt (s.regIn 1#4 5#4) k) = true)
  (time_ : s.dataHalf s.lctimeAddr = some lctime) (width_ : s.dataHalf (s.widthAddr (s.reg 2#4)) = some width)
  (baud_ : s.dataHalf (s.baudAddr (s.reg 2#4)) = some baud)

include ready hg hp hw plain time_ width_ baud_

theorem transmit_value (hm : s.pend.mac = false) :
    ∃ t, transmit r1 r2 s = .ok () t ∧
      ∃ counted wraps rightFirst past : Bool,
        let delay := charDelay s.params wraps (s.outputClock counted) lctime
        s.Sends r1 r2 rightFirst past delay width.toNat baud.toNat
          (ringTime s.params wraps (s.outputClock counted + delay + width.toNat)) t := by
  obtain ⟨t, done, sent⟩ := transmit_stores (r1 := r1) (r2 := r2) (rate := s.reg 2#4) ready hg plain hm hp hw
    ((markedEdges (s.free.getLsbD 2) (s.free.getLsbD 3) (s.reg 0#4) width.toNat baud.toNat).map fun j =>
      outputOffset s.params (s.ringStart +
        charDelay s.params (s.free.getLsbD 1) (s.outputClock s.freeBit) lctime + j * baud.toNat))
    (3 * asyncFiveFrames s.params <
      charDelay s.params (s.free.getLsbD 1) (s.outputClock s.freeBit) lctime + width.toNat)
    (ringTime s.params (s.free.getLsbD 1)
      (s.outputClock s.freeBit + charDelay s.params (s.free.getLsbD 1) (s.outputClock s.freeBit) lctime +
        width.toNat))
  refine ⟨t, ?_, s.freeBit, s.free.getLsbD 1, s.free.getLsbD 2, s.free.getLsbD 3, ?_⟩
  · rw [transmit, readHalf_value hm time_, Res.bind_ok, readHalf_value hm width_, Res.bind_ok,
      readHalf_value hm baud_, Res.bind_ok]
    rw [List.map_map (g := fun offset => s.ringCell _ offset)] at done
    exact (congrArg (fun l => (writeBits _ l _).bind _) (transitions_eq s _ _ _ _ _ _ _)).trans done
  · rw [asyncFiveFrames_eq] at sent
    exact sent

theorem execXmit_ready (ha : s.psw.a = true) (he : s.params.enhancedAsync = true) :
    ∃ t, execXmit r1 r2 s = .next t ∧ t.pc = nextAddr s.pc 2 ∧
      ∃ counted wraps rightFirst past : Bool,
        let delay := charDelay s.params wraps (s.outputClock counted) lctime
        s.Sends r1 r2 rightFirst past delay width.toNat baud.toNat
          (ringTime s.params wraps (s.outputClock counted + delay + width.toNat)) t := by
  obtain ⟨t, done, counted, wraps, rightFirst, past, sent⟩ :=
    transmit_value (s := s.begin) (r1 := r1) (r2 := r2) ready hg hp hw plain time_ width_ baud_ rfl
  refine ⟨t.setPc (nextAddr s.pc 2), ?_, State.setPc_pc _ _, counted, wraps, rightFirst, past,
    ⟨sent.clear, sent.marks, sent.outside, sent.lctime, sent.others, sent.tam⟩⟩
  rw [execXmit, asyncOnly_value ha he]
  have begins : s.begin.xmitReady = true := ready
  refine sequential_ok ?_ sent.clear
  rw [begins]
  exact done

end Transmit

end Sys2Proof.Machine

/-! # GCHAR

The samples of a character, its place in register 0, and the port's link in the control ring (R374, R403). -/

namespace Sys2Proof.Machine

/-! ## The link (R403) -/

/-- A port is linked into an entry of the control ring, at the head of the list there; the storage behind the
ring's entries and links is unchanged. -/
structure Memory.Linked (base : Word) (port slot : Nat) (m m' : Memory) : Prop where
  head : m'.half (controlAt base slot) = BitVec.ofNat 16 port
  rest : m'.half (controlAt base (0x200 + 2 * port)) = m.half (controlAt base slot)
  outside : ∀ x, ¬InControl base 0x400 x → m'.read x = m.read x

theorem Memory.linked_setHalf {m : Memory} (hw : m.wf = true) {base : Word} (even : base.getLsbD 0 = false)
    {port slot : Nat} (hp : port < 256) (hs : slot < 0x200) :
    Memory.Linked base port slot m ((m.setHalf (controlAt base (0x200 + 2 * port))
      (m.half (controlAt base slot))).setHalf (controlAt base slot) (BitVec.ofNat 16 port)) := by
  have low := even_toNat even
  have apart : evenBase (controlAt base (0x200 + 2 * port)) ≠ evenBase (controlAt base slot) := by
    rw [evenBase, evenBase, controlAt_toNat, controlAt_toNat]
    omega
  have out {x k : Nat} (hx : ¬InControl base 0x400 x) (hk : k < 0x400) : Outside x (controlAt base k) := by
    obtain ⟨left, right⟩ := inControl_halfword even hk rfl
    rw [evenBase_evenAddr] at left right
    exact ⟨fun e => hx (e ▸ left), fun e => hx (e ▸ right)⟩
  refine ⟨Memory.half_setHalf_same (Memory.wf_setHalf hw), ?_, fun x hx => ?_⟩
  · rw [Memory.half_setHalf_other apart, Memory.half_setHalf_same hw]
  · rw [Memory.read_setHalf_outside (out hx (by omega)), Memory.read_setHalf_outside (out hx (by omega))]

theorem linkPort_value {s : State} {base : Word} (c : s.Control base 0x400) (hw : s.mem.wf = true) {port : Nat}
    (hp : port < 256) (length : Half) :
    ∃ slot m, linkPort port length s = .ok () (s.tick.setMem m) ∧ Memory.Linked base port slot s.mem m ∧
      (slot = ((s.regIn 1#4 4#4).toNat + length.toNat) % 0x200 ∨
        slot = ((s.regIn 1#4 4#4).toNat + length.toNat + 2) % 0x200) := by
  generalize hslot : ((s.regIn 1#4 4#4).toNat + length.toNat + if s.freeBit then 2 else 0) % 0x200 = slot
  have lt : slot < 0x200 := hslot ▸ Nat.mod_lt _ (by decide)
  refine ⟨slot, _, ?_, Memory.linked_setHalf hw c.even hp lt, ?_⟩
  · have port_ : port % 256 = port := Nat.mod_eq_of_lt hp
    have calm (m : Memory) : (s.tick.setMem m).Control base 0x400 :=
      ⟨c.unrelocated, c.clear, c.begins, c.even, c.plain⟩
    rw [linkPort, c.controlEntry, hslot, c.tick.read (by omega), Res.bind_ok, c.linkEntry, port_,
      c.tick.write (by omega), Res.bind_ok, (calm _).write (by omega)]
    simp only [Memory.half_evenAddr, Memory.setHalf_evenAddr]
    rfl
  · cases e : s.freeBit <;> rw [e] at hslot
    · exact .inl hslot.symm
    · exact .inr hslot.symm

/-! ## The character (R374) -/

theorem withChar_sample {sample : Nat → Bool} (w : Word) {place k : Nat} (rightFirst : Bool) (hp : place ≤ 24)
    (hk : k < 8) :
    (withChar w place (charOf rightFirst (((List.range 9).map sample).take 8))).getLsbD
      (place + if rightFirst then k else 7 - k) = sample k := by
  have bauds : ∀ j, j < 8 → (((List.range 9).map sample).take 8).getD j true = sample j := by
    intro j hj
    simp [List.getD, hj]
  cases rightFirst with
  | true =>
    rw [if_pos rfl, withChar_getLsbD _ _ hp hk, charOf_getLsbD _ _ hk, if_pos rfl, bauds k hk]
  | false =>
    have back : 7 - (7 - k) = k := by omega
    rw [if_neg Bool.false_ne_true, withChar_getLsbD _ _ hp (by omega), charOf_getLsbD _ _ (by omega),
      if_neg Bool.false_ne_true, back, bauds k hk]

/-- The samples of the port, of the character's bauds and of the stop-baud (R374, R402). -/
def State.sample (s : State) (ends : Bool) (center baud k : Nat) : Bool :=
  (s.mem.half (programAddr (s.ringCell ((s.reg 14#4).toNat / 16) (s.ringOffset (s.regIn 1#4 3#4) +
    (if ends then asyncRingBytes s.params - 2 * s.params.asyncGroups else 0) + center + k * baud)))).getMsbD
      ((s.reg 14#4).toNat % 16)

/-- The end of GCHAR: its character in register 0, and the registers it leaves open. -/
def State.withReceived (v : State) (r1 : Reg) (char : Word) : State :=
  (((v.tick.tick.freeRegs workedByAsync).freeReg r1).writeReg 0#4 char).freeCc

section Received

variable {v : State} {r1 : Reg} {char : Word} (hm : v.pend.mac = false)

include hm

theorem withReceived_eq :
    v.withReceived r1 char = (((v.tick.tick.freeRegs workedByAsync).freeReg r1).setReg 0#4 char).freeCc := by
  exact congrArg State.freeCc
    (State.writeReg_untainted ((v.tick.tick.freeRegs workedByAsync).freeReg r1) _ _ hm)

theorem withReceived_reg : (v.withReceived r1 char).reg 0#4 = char := by
  rw [withReceived_eq hm]
  exact State.reg_setReg_same ((v.tick.tick.freeRegs workedByAsync).freeReg r1) _ _

theorem withReceived_regIn {k : Nib} {r : Reg} (h1 : k ≠ 1#4) (h2 : k ≠ 2#4)
    (h : ¬(k = v.psw.rs ∧ (r = r1 ∨ r = 0#4))) : (v.withReceived r1 char).regIn k r = v.regIn k r := by
  rw [withReceived_eq hm]
  let u := v.tick.tick.freeRegs workedByAsync
  calc ((u.freeReg r1).setReg 0#4 char).regIn k r
    _ = (u.freeReg r1).regIn k r := State.regIn_setRegIn_other _ _ _ _ _ _ fun e => h ⟨e.1, .inr e.2⟩
    _ = u.regIn k r := State.regIn_freeReg fun e => h ⟨e.1, .inl e.2⟩
    _ = v.regIn k r := State.regIn_freeRegs (s := v.tick.tick) (workedByAsync_eq_false h1 h2)

end Received

/-! ## The instruction -/

/-- A character has been received: its samples say where control goes and what stands at `place` in register 0, its
port is linked into entry `slot`, and no more has changed (R374). -/
structure State.Receives (s : State) (r1 : Reg) (sample : Nat → Bool) (slot place : Nat) (rightFirst : Bool)
    (t : State) : Prop where
  clear : t.pend.mac = false
  goes : t.pc = nextAddr s.pc (if sample 8 then 2 else 6)
  char : ∀ k, k < 8 → (t.reg 0#4).getLsbD (place + if rightFirst then k else 7 - k) = sample k
  linked : Memory.Linked (s.regIn 1#4 5#4) (s.reg 14#4).toNat slot s.mem t.mem
  others : ∀ k r, k ≠ 1#4 → k ≠ 2#4 → ¬(k = s.psw.rs ∧ (r = r1 ∨ r = 0#4)) → t.regIn k r = s.regIn k r

section Receive

variable {s : State} {r1 r2 : Reg} {length center baud : Half} (ready : s.portReady (s.reg r2) = true)
  (hg : s.params.asyncGroups ≤ 16) (hp : s.psw.rp = false) (hw : s.mem.wf = true)
  (even : (s.regIn 1#4 5#4).getLsbD 0 = false)
  (plain : ∀ k, k < 0x600 + asyncRingBytes s.params → isPlain s.params (controlAt (s.regIn 1#4 5#4) k) = true)

include ready hp plain

theorem samples_value (hm : s.pend.mac = false) (ends : Bool) (center baud : Nat) :
    readHalves (s.sampleCells ends ((s.reg 14#4).toNat / 16) center baud) s =
      .ok ((List.range 9).map fun k => s.mem.half (programAddr (s.ringCell ((s.reg 14#4).toNat / 16)
        (s.ringOffset (s.regIn 1#4 3#4) +
          (if ends then asyncRingBytes s.params - 2 * s.params.asyncGroups else 0) + center + k * baud)))) s := by
  refine readHalves_value hm fun k _ => ?_
  rw [dataHalf_memory hp (by rw [isPlain_evenAddr]; exact cell_plain ready plain _), Memory.half_evenAddr]

variable (length_ : s.dataHalf (s.receiveAddr (s.reg r2)) = some length)
  (center_ : s.dataHalf (s.centerAddr (s.reg r2)) = some center)
  (baud_ : s.dataHalf (s.baudAddr (s.reg r2)) = some baud)

include hg hw even length_ center_ baud_

theorem receive_value (hm : s.pend.mac = false) :
    ∃ (t : State) (slot place : Nat) (ends rightFirst : Bool), receive r1 r2 s = .ok () t ∧ place ≤ 24 ∧
      (slot = ((s.regIn 1#4 4#4).toNat + length.toNat) % 0x200 ∨
        slot = ((s.regIn 1#4 4#4).toNat + length.toNat + 2) % 0x200) ∧
      s.Receives r1 (s.sample ends center.toNat baud.toNat) slot place rightFirst t := by
  obtain ⟨-, lt, -, -⟩ := portReady_iff.1 ready
  have c : s.tick.Control (s.regIn 1#4 5#4) 0x400 := ⟨hp, hm, rfl, even, fun k hk => plain k (by omega)⟩
  obtain ⟨slot, m, link, linked, which⟩ := linkPort_value c hw (port := (s.reg 14#4).toNat) (by omega) length
  let v := s.tick.tick.setMem m
  let sample := s.sample s.freeBit center.toNat baud.toNat
  let place := v.free.toNat / 2 % 25
  have low : place ≤ 24 := Nat.le_of_lt_succ (Nat.mod_lt _ (by decide))
  let char := withChar v.tick.free place (charOf v.freeBit (((List.range 9).map sample).take 8))
  have clear : (v.withReceived r1 char).pend.mac = false := by
    rw [withReceived_eq (v := v) hm]
    exact hm
  have kept : (v.withReceived r1 char).mem = m := by
    rw [withReceived_eq (v := v) hm]
    rfl
  refine ⟨(v.withReceived r1 char).setPc (nextAddr s.pc (if sample 8 then 2 else 6)), slot, place, s.freeBit,
    v.freeBit, ?_, low, which, clear, State.setPc_pc _ _, fun k hk => ?_, ?_, fun k r h1 h2 h => ?_⟩
  · have bauds := samples_value (s := s.tick) (r2 := r2) ready hp plain hm s.freeBit center.toNat baud.toNat
    rw [receive, readHalf_value hm length_, Res.bind_ok, readHalf_value hm center_, Res.bind_ok,
      readHalf_value hm baud_, Res.bind_ok]
    refine (congrArg (fun x => Res.bind x _) bauds).trans ?_
    rw [Res.bind_ok]
    refine (congrArg (fun x => Res.bind x _) link).trans ?_
    rw [Res.bind_ok, List.map_map]
    exact congrArg (Res.ok ()) (if_neg (Bool.eq_false_iff.1 clear))
  · exact (congrArg (fun w => BitVec.getLsbD w _) (withReceived_reg (v := v) hm)).trans
      (withChar_sample _ _ low hk)
  · rw [State.setPc_mem, kept]
    exact linked
  · exact withReceived_regIn (v := v) hm h1 h2 h

theorem execGchar_ready (ha : s.psw.a = true) (he : s.params.enhancedAsync = true) :
    ∃ (t : State) (slot place : Nat) (ends rightFirst : Bool), execGchar r1 r2 s = .next t ∧ place ≤ 24 ∧
      (slot = ((s.regIn 1#4 4#4).toNat + length.toNat) % 0x200 ∨
        slot = ((s.regIn 1#4 4#4).toNat + length.toNat + 2) % 0x200) ∧
      s.Receives r1 (s.sample ends center.toNat baud.toNat) slot place rightFirst t := by
  obtain ⟨t, slot, place, ends, rightFirst, done, low, which, got⟩ :=
    receive_value (s := s.begin) (r1 := r1) ready hg hp hw even plain length_ center_ baud_ rfl
  refine ⟨t, slot, place, ends, rightFirst, ?_, low, which, got.clear, got.goes, got.char, got.linked, got.others⟩
  rw [execGchar, asyncOnly_value ha he]
  have begins : s.begin.portReady (s.begin.reg r2) = true := ready
  refine transfer_ok ?_ got.clear
  rw [begins]
  exact done

end Receive

end Sys2Proof.Machine

/-! # The returns of the async instructions -/

namespace Sys2Proof.Machine

/-! ## SBOD, register by register (R371, R403) -/

section SbodRegisters

variable {s v t : State} {base : Word} {r1 : Reg} {m : Nat} (h : s.Scanned base m v) (l : v.SbodLeaves r1 t)

include h l

theorem sbod_index (rs : s.psw.rs ≠ 1#4) :
    (t.regIn 1#4 4#4 = if m = 0 then s.regIn 1#4 4#4 else
      BitVec.ofNat 32 (((s.regIn 1#4 4#4).toNat + 2 * m) % 0x200)) ∧
    (t.regIn 1#4 7#4 + s.regIn 1#4 13#4).toNat % asyncRingBytes s.params =
      (s.ringOffset (s.regIn 1#4 7#4) + asyncThird s.params * m) % asyncRingBytes s.params := by
  have kept := l.index (by rw [h.stores.psw]; exact rs)
  refine ⟨(kept 4#4 (by decide)).trans h.index, ?_⟩
  rw [kept 7#4 (by decide), ← h.others 1#4 13#4 (by decide) (by decide), ← h.offset, State.ringOffset,
    h.stores.params]

theorem sbod_tam (rs : s.psw.rs ≠ 3#4) (r : Reg) :
    (t.regIn 3#4 r).extractLsb' 0 16 = (s.regIn 3#4 r).extractLsb' 0 16 :=
  (l.tam (by rw [h.stores.psw]; exact rs) r).trans (h.tam r)

theorem sbod_others {k : Nib} {r : Reg} (h1 : k ≠ 1#4) (h2 : k ≠ 2#4) (h3 : k ≠ 3#4)
    (other : ¬(k = s.psw.rs ∧ (r = r1 ∨ r = 14#4 ∨ r = 13#4))) : t.regIn k r = s.regIn k r :=
  (l.others k r h1 h2 h3 (by rw [h.stores.psw]; exact other)).trans (h.others k r h3 fun e => h1 e.1)

theorem sbod_outside {x : Nat} (out : ∀ k, k < 0x200 → x ≠ (controlAt base k).toNat) : t.mem.read x = s.mem.read x := by
  rw [l.mem]
  exact h.stores.outside x fun ⟨k, hk, e⟩ => out k hk e

end SbodRegisters

/-! ## The obligation -/

/-- How far past RGX5 a character begins, in bytes of the ring (R372). -/
theorem charDelay_eq (p : Config.Params) (wraps : Bool) (clock : Nat) (lctime : Half) :
    charDelay p wraps clock lctime =
      if lctime = ringTime p wraps clock then 0
      else if lctime = ringTime p wraps (clock + 60 * p.asyncGroups) then 60 * p.asyncGroups
      else if lctime = ringTime p wraps (clock + 2 * (60 * p.asyncGroups)) then 2 * (60 * p.asyncGroups)
      else 0 := by
  rw [← asyncFiveFrames_eq]
  rfl

/-- The table of character widths is the first. -/
theorem widthAddr_eq (s : State) (rate : Word) : s.widthAddr rate = s.regIn 2#4 12#4 + 2#32 * rate := by
  rw [State.widthAddr, State.tableAddr, Nat.mul_zero, BitVec.add_zero]

theorem outputClock_eq (s : State) (counted : Bool) :
    s.outputClock counted = (s.regIn 2#4 8#4).toNat ∨
      s.outputClock counted = (s.regIn 2#4 9#4 + s.regIn 2#4 13#4).toNat := by
  cases counted with
  | true => exact .inl rfl
  | false => exact .inr rfl

/-- Settles O58: each instruction by what its body does where the storage stands (SBOD by its scanner and its
returns, XMIT by its three stores, GCHAR by its samples and its link), and by what an open body leaves where it does
not. -/
theorem asyncReturns : Obligations.AsyncReturns := by
  unfold Obligations.AsyncReturns
  intro s r1 r2 a ha he hp
  simp only [exec_sbod, exec_xmit, exec_spm, exec_gchar]
  refine ⟨fun hg closed array => execSbod_open ha he hg hp closed array, fun hg ready even plain array => ?_,
    execXmit_open ha he hp, fun lctime width baud ready hg hw time_ width_ baud_ plain => ?_,
    execSpm_value ha he hp, execGchar_open ha he hp,
    fun length center baud ready hg hw even length_ center_ baud_ plain => ?_⟩
  · have c : s.begin.Control (s.regIn 1#4 5#4) 0x400 := ⟨hp, rfl, rfl, even, plain⟩
    obtain ⟨t, v, m, done, within, scanned, leaves, goes⟩ := execSbod_ready (r1 := r1) ha he hg c ready array
    exact ⟨t, m, done, within, goes, sbod_index (s := s.begin) scanned leaves, sbod_tam (s := s.begin) scanned leaves,
      fun k r => sbod_others (s := s.begin) scanned leaves, fun x => sbod_outside (s := s.begin) scanned leaves⟩
  · rw [← widthAddr_eq] at width_
    obtain ⟨t, done, pc, counted, wraps, rightFirst, past, sent⟩ :=
      execXmit_ready (r1 := r1) (r2 := r2) ready hg hp hw plain time_ width_ baud_ ha he
    have area (x : Nat) (out : ∀ k, k < 0x600 + asyncRingBytes s.params → x ≠ (controlAt (s.regIn 1#4 5#4) k).toNat) :
        t.mem.read x = s.mem.read x := sent.area ready hg fun ⟨k, hk, e⟩ => out k hk e
    refine ⟨t, done, pc, area, s.outputClock counted, wraps, rightFirst, past, outputClock_eq s counted, ?_⟩
    rw [charDelay_eq] at sent
    refine ⟨fun j hj => sent.marks _ ?_, fun x lct edge five => sent.outside x lct ?_ five, sent.lctime, sent.others,
      sent.tam⟩
    · exact List.mem_map_of_mem (List.mem_map_of_mem (mem_markedEdges.2 hj))
    · simp only [List.forall_mem_map]
      exact fun j hj => edge j (mem_markedEdges.1 hj)
  · obtain ⟨t, slot, place, ends, rightFirst, done, low, which, got⟩ :=
      execGchar_ready (r1 := r1) ready hg hp hw even plain length_ center_ baud_ ha he
    exact ⟨t, slot, place, ends, rightFirst, done, got.goes, ⟨low, got.char⟩, which, got.linked.head, got.linked.rest,
      fun x out => got.linked.outside x fun ⟨k, hk, e⟩ => out k hk e, got.others⟩

end Sys2Proof.Machine

/-! # The state after reset

The recommended PSW and location of R520, and the values the model gives the rest (log 1 to 3). -/

namespace Sys2Proof.Machine

theorem regIn_reset (k : Nib) (r : Reg) : State.reset.regIn k r = 0#32 := by
  simp [State.regIn, State.reset]

theorem descriptor_reset (n : Nib) : State.reset.descriptor n = 0#32 := by
  simp [State.descriptor, State.reset]

/-- Settles O1: the registers and descriptors by reading a vector of zeros, every other field as it is written in
`State.reset`. -/
theorem resetState : Obligations.ResetState :=
  ⟨by decide, rfl, regIn_reset, descriptor_reset, fun _ => rfl, rfl, rfl, rfl⟩

/-- Settles O2: memory is empty, so canonical, the program counter is 0 and nothing is pending. -/
theorem resetInv : Obligations.ResetInv := ⟨rfl, rfl, rfl⟩

end Sys2Proof.Machine

/-! # What an instruction of user mode does to the PSW

With psw.P = 1 a privileged instruction is illegal (R455). Of all others none but SVC changes more of the PSW than T
and the condition code: `State.context` is the rest of it, proved to stay for each state operation, then for the
bodies that instructions share, then for every instruction. What enters a new PSW, an interrupt or SVC, takes it
from a dedicated location (R336, R462, R465). -/

namespace Sys2Proof.Machine

/-! ## The context -/

/-- The PSW but for T and the condition code, the bits that user mode may change (R332). -/
def State.context (s : State) : Psw := { s.psw with t := false, c := false, v := false, g := false, l := false }

/-- An operation that has a value keeps the context. -/
def State.KeepsContext {α : Type} (s : State) (r : Res α) : Prop := ∀ a t, r = .ok a t → t.context = s.context

/-- The context is as before, or the PSW in force is one that an exception enters: all that user mode may come to
(R455). -/
def State.UserMay (s t : State) : Prop :=
  s.SameContext t ∨ t.Entered 0x30#20 ∨ t.Entered 0x90#20 ∨ t.Entered 0x98#20

/-- An instruction that answers a next state comes to no other. -/
def State.EndsAsUserMay (s : State) (o : Out) : Prop := ∀ t, o = .next t → s.UserMay t

theorem sameContext_iff {s t : State} : s.SameContext t ↔ t.context = s.context := by
  unfold State.SameContext State.context
  generalize s.psw = p
  generalize t.psw = q
  cases p
  cases q
  simp

theorem State.AfterAccess.context {s t : State} (h : s.AfterAccess t) : t.context = s.context := by
  rw [h.1]
  rfl

theorem State.AfterRearm.context {s t : State} (h : s.AfterRearm t) : t.context = s.context :=
  h.access.context

/-! ## What writes no context -/

section Writes

variable {t : State}

@[simp] theorem context_setPc (a : Addr) : (t.setPc a).context = t.context := rfl
@[simp] theorem context_begin : t.begin.context = t.context := rfl
@[simp] theorem context_tick : t.tick.context = t.context := rfl
@[simp] theorem context_scribble : t.scribble.context = t.context := rfl
@[simp] theorem context_openHalf (ea : Word) : (t.openHalf ea).context = t.context := rfl
@[simp] theorem context_setRegIn (k : Nib) (r : Reg) (v : Word) : (t.setRegIn k r v).context = t.context := rfl
@[simp] theorem context_setReg (r : Reg) (v : Word) : (t.setReg r v).context = t.context := rfl
@[simp] theorem context_freeReg (r : Reg) : (t.freeReg r).context = t.context := rfl
@[simp] theorem context_freeRegs (picked : Nat → Bool) : (t.freeRegs picked).context = t.context := rfl
@[simp] theorem context_freeCc : t.freeCc.context = t.context := rfl
@[simp] theorem context_setPcEither (a b : Addr) : (t.setPcEither a b).context = t.context := rfl
@[simp] theorem context_advanceSbx : t.advanceSbx.context = t.context := rfl
@[simp] theorem context_afterCopy (r1 r2 : Reg) : (t.afterCopy r1 r2).context = t.context := rfl
@[simp] theorem context_afterArand (r1 : Reg) : (t.afterArand r1).context = t.context := rfl

@[simp] theorem context_writeReg (r : Reg) (v : Word) : (t.writeReg r v).context = t.context := by
  unfold State.context
  rw [State.writeReg_psw]

@[simp] theorem context_writeDivision (r1 : Reg) (q : Option (Word × Word)) :
    (t.writeDivision r1 q).context = t.context := by
  unfold State.context
  rw [State.writeDivision_psw]

@[simp] theorem context_writeFlags (f : Flags) : (t.writeFlags f).context = t.context := by
  unfold State.writeFlags
  split <;> rfl

@[simp] theorem context_writeTrace (b : Bool) : (t.writeTrace b).context = t.context := by
  unfold State.writeTrace
  split <;> rfl

@[simp] theorem context_mayFault : t.mayFault.context = t.context := by
  unfold State.mayFault
  split
  · exact (State.AfterRead.raiseMac t.tick _).access.context
  · rfl

@[simp] theorem context_setSba (port : Nat) (on : Bool) : (t.setSba port on).context = t.context := by
  unfold State.setSba
  split <;> rfl

@[simp] theorem context_loadFlags (v : Word) : (t.loadFlags v).context = t.context := by
  simp [State.loadFlags]

@[simp] theorem context_bitResult (h : Half) (d : Word) : (t.bitResult h d).context = t.context := by
  simp [State.bitResult]

@[simp] theorem context_shiftFlags {w : Nat} (last : Option Bool) (tested : BitVec w) :
    (t.shiftFlags last tested).context = t.context := by
  cases last <;> simp [State.shiftFlags]

@[simp] theorem context_halfShiftFlags (last : Option Bool) (h : Half) (w : Word) :
    (t.halfShiftFlags last h w).context = t.context := by
  unfold State.halfShiftFlags
  split <;> simp

@[simp] theorem context_freeEach (rs : List Reg) : (rs.foldl State.freeReg t).context = t.context := by
  induction rs generalizing t with
  | nil => rfl
  | cons r rs ih => rw [List.foldl_cons, ih, context_freeReg]

@[simp] theorem context_undescribedRead (rs : List Reg) : (t.undescribedRead rs).context = t.context := by
  simp [State.undescribedRead]

@[simp] theorem context_asyncBody (rs : List Reg) : (t.asyncBody rs).context = t.context := by
  simp [State.asyncBody, State.undescribed]

@[simp] theorem context_foundPort (port : Nat) : (t.foundPort port).context = t.context := by
  simp [State.foundPort]

@[simp] theorem context_sbodBody (r1 : Reg) : (t.sbodBody r1).context = t.context := context_asyncBody _

@[simp] theorem context_sbodInput (r1 : Reg) : (t.sbodInput r1).context = t.context := by
  simp [State.sbodInput, State.sbodWorks]

@[simp] theorem context_sbodOutput (r1 : Reg) (ports : List Nat) : (t.sbodOutput r1 ports).context = t.context := by
  unfold State.sbodOutput
  split <;> simp [State.sbodWorks]

@[simp] theorem context_cksumAdvance (r2 : Reg) (bytes : Nat) :
    (t.cksumAdvance r2 bytes).context = t.context := by
  simp only [State.cksumAdvance]
  split <;> simp

@[simp] theorem context_afterMove (r1 r2 : Reg) (m : Moved) : (t.afterMove r1 r2 m).context = t.context := by
  simp [State.afterMove]

end Writes

/-! ## Sequencing -/

section Sequencing

variable {α β : Type} {s t : State}

@[simp] theorem keepsContext_ok {a : α} : s.KeepsContext (.ok a t) ↔ t.context = s.context := by
  simp [State.KeepsContext]

@[simp] theorem keepsContext_refused {f : Refusal} : s.KeepsContext (.refused f : Res α) := by
  simp [State.KeepsContext]

/-- An operation begun after a change that keeps the context. -/
theorem State.KeepsContext.after {r : Res α} (h : t.KeepsContext r) (hs : t.context = s.context := by simp) :
    s.KeepsContext r :=
  fun a u e => (h a u e).trans hs

/-- Two operations, the second begun where the first has left. -/
theorem State.KeepsContext.bind {r : Res α} {k : α → State → Res β} (hr : s.KeepsContext r)
    (hk : ∀ a (t : State), t.KeepsContext (k a t)) : s.KeepsContext (r.bind k) := by
  intro b u e
  obtain ⟨a, t, h1, h2⟩ := Res.bind_eq_ok.1 e
  exact (hk a t b u h2).trans (hr a t h1)

/-- An operation after which the state is only written. -/
theorem State.KeepsContext.andThen {r : Res α} {f : α → State → β} {g : α → State → State}
    (hr : s.KeepsContext r) (hg : ∀ a (t : State), (g a t).context = t.context := by simp) :
    s.KeepsContext (r.bind fun a t => .ok (f a t) (g a t)) :=
  hr.bind fun a t => keepsContext_ok.2 (hg a t)

/-- An operation that changes no more than an access may. -/
theorem State.KeepsContext.of_access {r : Res α} (h : ∀ {a t}, r = .ok a t → s.AfterAccess t) : s.KeepsContext r :=
  fun _ _ e => (h e).context

/-- An operation that changes no more than a read may. -/
theorem State.KeepsContext.of_read {r : Res α} (h : ∀ {a t}, r = .ok a t → s.AfterRead t) : s.KeepsContext r :=
  .of_access fun e => (h e).access

end Sequencing

/-! ## Memory -/

section Memory

variable (s : State)

theorem readHalf_context (ea : Word) : s.KeepsContext (readHalf ea s) := .of_read readHalf_after
theorem readFull_context (ea : Word) : s.KeepsContext (readFull ea s) := .of_read readFull_after
theorem readByte_context (ea : Word) : s.KeepsContext (readByte ea s) := .of_read readByte_after
theorem readHalves_context (l : List Word) : s.KeepsContext (readHalves l s) := .of_read readHalves_after

theorem scanRing_context (halves : Bool) (ring lead : Word) (n : Nat) (trail : Word) :
    s.KeepsContext (scanRing halves ring lead n trail s) := .of_read scanRing_after

theorem writeHalf_context (ea : Word) (h : Half) : s.KeepsContext (writeHalf ea h s) := .of_access writeHalf_after
theorem writeFull_context (ea v : Word) : s.KeepsContext (writeFull ea v s) := .of_access writeFull_after
theorem writeByte_context (ea : Word) (b : Byte) : s.KeepsContext (writeByte ea b s) := .of_access writeByte_after

theorem testAndSetAt_context (va : Addr) : s.KeepsContext (testAndSetAt va s) := .of_access testAndSetAt_after

theorem copyEach_context (open_ : Bool) (l : List (Word × Word)) : s.KeepsContext (copyEach open_ l s) :=
  .of_access copyEach_after

theorem writeBit_context (ea : Word) (k : Nat) (b : Bool) : s.KeepsContext (writeBit ea k b s) :=
  .of_access writeBit_after

theorem writeBits_context (k : Nat) (l : List (Word × Bool)) : s.KeepsContext (writeBits k l s) :=
  .of_access writeBits_after

theorem linkPort_context (port : Nat) (length : Half) : s.KeepsContext (linkPort port length s) :=
  .of_access linkPort_after

theorem moveRecord_context (toBuffer : Bool) (n : Nat) (held : Option Word) (record buffer : Word) :
    s.KeepsContext (moveRecord toBuffer n held record buffer s) := .of_access moveRecord_after

theorem rearm_context (index : Nat) : s.KeepsContext (rearm index s) := fun _ _ e => (rearm_after e).context

theorem turnTamOff_context (port : Nat) : s.KeepsContext (turnTamOff port s) :=
  (writeBit_context s.tick _ _ _).after.andThen

theorem readPswAndPc_context (ea : Word) : s.KeepsContext (readPswAndPc ea s) :=
  (readFull_context s _).bind fun _ t => (readFull_context t _).andThen

theorem scanSteps_context (after : Bool) (n : Nat) : s.KeepsContext (scanSteps after n s) := by
  induction n generalizing s with
  | zero => exact keepsContext_ok.2 rfl
  | succ n ih => exact (rearm_context s _).bind fun _ t => (ih t.advanceSbx).after

theorem loadMultiple_context (n : Nat) (ea : Word) (r : Reg) : s.KeepsContext (loadMultiple n ea r s) := by
  induction n generalizing s ea r with
  | zero => exact keepsContext_ok.2 rfl
  | succ n ih => exact (readFull_context s _).bind fun v t => (ih (t.writeReg r v) _ _).after

theorem storeMultiple_context (n : Nat) (ea : Word) (r : Reg) : s.KeepsContext (storeMultiple n ea r s) := by
  induction n generalizing s ea r with
  | zero => exact keepsContext_ok.2 rfl
  | succ n ih => exact (writeFull_context s _ _).bind fun _ t => ih t _ _

theorem writeFreeHalves_context (l : List Word) : s.KeepsContext (writeFreeHalves l s) := by
  induction l generalizing s with
  | nil => exact keepsContext_ok.2 rfl
  | cons ea rest ih => exact (writeHalf_context s.tick _ _).after.bind fun _ t => ih t

theorem searchArrays_context (n : Nat) (p q : Word) : s.KeepsContext (searchArrays n p q s) := by
  induction n generalizing s p q with
  | zero => exact keepsContext_ok.2 rfl
  | succ n ih =>
    refine (readHalf_context s p).bind fun a t => (readHalf_context t q).bind fun b u => ?_
    split
    · simp
    · split
      · exact ih u _ _
      · simp

theorem copyBlock_context (down extra : Bool) (src dst : List Word) (before : Word) :
    s.KeepsContext (copyBlock down extra src dst before s) := by
  unfold copyBlock
  split
  · refine (copyEach_context s _ _).bind fun _ t => ?_
    split
    · exact (readHalf_context t _).andThen
    · simp
  · exact (readHalf_context s _).bind fun _ t => copyEach_context t _ _

end Memory

/-! ## Operands -/

theorem operandOf_context (f : State → Word) (s : State) : s.KeepsContext (operandOf f s) := keepsContext_ok.2 rfl
theorem operandFull_context (rx : RxAddr) (s : State) : s.KeepsContext (operandFull rx s) := readFull_context s _
theorem operandHalf_context (rx : RxAddr) (s : State) : s.KeepsContext (operandHalf rx s) :=
  (readHalf_context s _).andThen
theorem operandHalfZero_context (rx : RxAddr) (s : State) : s.KeepsContext (operandHalfZero rx s) :=
  (readHalf_context s _).andThen
theorem operandByte_context (rx : RxAddr) (s : State) : s.KeepsContext (operandByte rx s) :=
  (readByte_context s _).andThen

/-! ## Transfers of control -/

theorem loadPc_context (s : State) (a : Addr) : s.KeepsContext (loadPc a s) := by
  intro _ t e
  rcases loadPc_ok e with ⟨-, -, rfl⟩ | ⟨-, rfl⟩ <;> rfl

/-- A jump changes of the PSW no more than the trace trap does, T and nothing else (R274, R485). -/
theorem jumpTo_context (s : State) (target : Addr) : s.KeepsContext (jumpTo target s) := by
  unfold jumpTo
  split
  · simp
  split
  · exact (writeFull_context s _ _).bind fun _ t => (writeFull_context t _ _).bind fun _ u =>
      (readFull_context (u.writeTrace false) _).after.bind fun w v => loadPc_context v _
  · simp

/-! ## A PSW entered at a dedicated location -/

section Entered

variable {s t : State} {a : Addr}

/-- A read of memory delivers the halfword there and changes nothing (R73). -/
theorem absReadHalf_memory {h : Half} (ha : isMemory a = true) (e : absReadHalf a s = .ok h t) :
    h = s.mem.half a ∧ t = s := by
  simp only [isMemory, Bool.and_eq_true, Bool.not_eq_true'] at ha
  obtain ⟨⟨hd, ho⟩, hr⟩ := ha
  simp only [absReadHalf, hd, ho, hr, Bool.false_eq_true, if_false] at e
  split at e
  · cases e
    exact ⟨rfl, rfl⟩
  · cases e

/-- Do the two halfwords of a fullword at the address stand in memory, as at a dedicated location? -/
def isMemoryFull (a : Addr) : Bool := evenAddr a == a && isMemory a && isMemory (a + 2#20)

/-- A read of a fullword of memory delivers its two halfwords and changes nothing (R72). -/
theorem absReadFull_memory {w : Word} (ha : isMemoryFull a = true) (e : absReadFull a s = .ok w t) :
    w = s.mem.half a ++ s.mem.half (a + 2#20) ∧ t = s := by
  simp only [isMemoryFull, Bool.and_eq_true, beq_iff_eq] at ha
  obtain ⟨⟨even, left⟩, right⟩ := ha
  rw [absReadFull, even] at e
  obtain ⟨hi, u, readHi, e⟩ := Res.bind_eq_ok.1 e
  obtain ⟨lo, v, readLo, e⟩ := Res.bind_eq_ok.1 e
  obtain ⟨rfl, rfl⟩ := absReadHalf_memory left readHi
  obtain ⟨rfl, rfl⟩ := absReadHalf_memory right readLo
  cases e
  exact ⟨rfl, rfl⟩

/-- The PSW swap of an interrupt puts the PSW at its dedicated location in force (R451). -/
theorem swapToRegisters_entered {pcAt saved : Addr} (ha : isMemoryFull a = true) (hp : isMemoryFull pcAt = true)
    (e : swapToRegisters a pcAt saved s = .ok () t) : t.Entered a := by
  obtain ⟨newPsw, u, readPsw, e⟩ := Res.bind_eq_ok.1 e
  obtain ⟨newPc, v, readPc, e⟩ := Res.bind_eq_ok.1 e
  obtain ⟨rfl, rfl⟩ := absReadFull_memory ha readPsw
  obtain ⟨-, rfl⟩ := absReadFull_memory hp readPc
  obtain ⟨-, rfl⟩ := enterAt_eq_ok.1 e
  rfl

/-- The illegal instruction interrupt (R462). -/
theorem takeIllegal_entered (e : takeIllegal s = .next t) : t.Entered 0x30#20 :=
  swapToRegisters_entered (by decide) (by decide) (Res.out_eq_next.1 e)

/-- The MAC interrupt (R465). -/
theorem takeMac_entered {saved : Addr} (e : takeMac saved s = .next t) : t.Entered 0x90#20 :=
  swapToRegisters_entered (by decide) (by decide) (Res.out_eq_next.1 e)

end Entered

/-! ## The shapes of instructions -/

section Shapes

variable {s : State}

/-- The end of an instruction adds the MAC interrupt, which enters a PSW, or its wait, which leaves the PSW (R458,
R465). -/
theorem finish_user {a : Addr} {r : Res Unit} (hr : r.Leaves s.UserMay) : s.EndsAsUserMay (finish a r) := by
  intro t e
  obtain ⟨u, hu, ⟨-, rfl⟩ | ⟨-, he⟩⟩ := finish_eq_next.1 e
  · exact hr () t hu
  rcases endWithMac_eq_next.1 he with ⟨-, rfl⟩ | ⟨-, hm⟩
  · exact hr () u hu
  · exact .inr (.inr (.inl (takeMac_entered hm)))

theorem takeIllegal_user : s.EndsAsUserMay (takeIllegal s) := fun _ e => .inr (.inl (takeIllegal_entered e))

/-- An operation that keeps the context leaves a state user mode may come to. -/
theorem State.KeepsContext.user {r : Res Unit} (h : s.KeepsContext r) : r.Leaves s.UserMay :=
  fun a t e => .inl (sameContext_iff.2 (h a t e))

theorem transfer_user {body : State → Res Unit} (hb : ∀ t : State, t.KeepsContext (body t)) :
    s.EndsAsUserMay (transfer body s) :=
  finish_user (hb s.begin).after.user

theorem sequential_user {len : Nat} {body : State → Res Unit} (hb : ∀ t : State, t.KeepsContext (body t)) :
    s.EndsAsUserMay (sequential len body s) :=
  finish_user (hb s.begin).after.andThen.user

/-- A privileged instruction is illegal in user mode (R455). -/
theorem privileged_user {meaning : State → Out} (hp : s.psw.p = true) : s.EndsAsUserMay (privileged meaning s) := by
  rw [privileged_illegal hp]
  exact takeIllegal_user

theorem sinceS15_user {meaning : State → Out} (h : s.EndsAsUserMay (meaning s)) :
    s.EndsAsUserMay (sinceS15 meaning s) := by
  unfold sinceS15
  split
  · exact h
  · exact takeIllegal_user

theorem asyncOnly_user {meaning : State → Out} (h : s.EndsAsUserMay (meaning s)) :
    s.EndsAsUserMay (asyncOnly meaning s) := by
  unfold asyncOnly
  split
  · exact h
  · exact takeIllegal_user

/-- An instruction that fetches its operand and then only writes registers and flags. -/
theorem operate_user {α : Type} {len : Nat} {operand : State → Res α} {result : α → State → State}
    (ho : ∀ t : State, t.KeepsContext (operand t))
    (hw : ∀ v (t : State), (result v t).context = t.context) :
    s.EndsAsUserMay (sequential len (fun t => (operand t).bind fun v u => .ok () (result v u)) s) :=
  sequential_user fun t => (ho t).andThen hw

section Operand

variable {len : Nat} {operand : State → Res Word} {r1 : Reg} (ho : ∀ t : State, t.KeepsContext (operand t))

include ho

theorem load_user : s.EndsAsUserMay (load len operand r1 s) := operate_user ho (by simp)
theorem addTo_user : s.EndsAsUserMay (addTo len operand r1 s) := operate_user ho (by simp)
theorem subFrom_user : s.EndsAsUserMay (subFrom len operand r1 s) := operate_user ho (by simp)
theorem compareLogical_user : s.EndsAsUserMay (compareLogical len operand r1 s) := operate_user ho (by simp)
theorem compareSigned_user : s.EndsAsUserMay (compareSigned len operand r1 s) := operate_user ho (by simp)
theorem multiply_user : s.EndsAsUserMay (multiply len operand r1 s) := operate_user ho (by simp)
theorem multiplyHalf_user : s.EndsAsUserMay (multiplyHalf len operand r1 s) := operate_user ho (by simp)
theorem divide_user : s.EndsAsUserMay (divide len operand r1 s) := operate_user ho (by simp)
theorem divideByHalf_user : s.EndsAsUserMay (divideByHalf len operand r1 s) := operate_user ho (by simp)
theorem test_user : s.EndsAsUserMay (test len operand r1 s) := operate_user ho (by simp)

theorem logical_user {f : Word → Word → Word} : s.EndsAsUserMay (logical f len operand r1 s) :=
  operate_user ho (by simp)

end Operand

section Shifts

variable {len : Nat} {count : State → Nat} {r1 : Reg}

theorem shiftFull_user {one : Word → Bool × Word} : s.EndsAsUserMay (shiftFull one len count r1 s) :=
  sequential_user (by simp)

theorem shiftHalf_user {one : Half → Bool × Half} : s.EndsAsUserMay (shiftHalf one len count r1 s) :=
  sequential_user (by simp)

theorem rotate_user {one : Word → Bool × Word} : s.EndsAsUserMay (rotate one len count r1 s) :=
  sequential_user (by simp)

end Shifts

theorem changeBit_user {f : Half → Half → Half} {r1 : Reg} {rx : RxAddr} :
    s.EndsAsUserMay (changeBit f r1 rx s) :=
  sequential_user fun t => (readHalf_context t _).bind fun _ u => (writeHalf_context u _ _).andThen

theorem jumpIf_user {len : Nat} {taken : State → Bool} {target : State → Addr} :
    s.EndsAsUserMay (jumpIf len taken target s) := by
  refine transfer_user fun t => ?_
  split
  · exact jumpTo_context t _
  · simp

theorem jumpTrue_user {mask : Nib} {len : Nat} {target : State → Addr} :
    s.EndsAsUserMay (jumpTrue mask len target s) := jumpIf_user

theorem jumpFalse_user {mask : Nib} {len : Nat} {target : State → Addr} :
    s.EndsAsUserMay (jumpFalse mask len target s) := jumpIf_user

theorem jumpLink_user {len : Nat} {r1 : Reg} {target : State → Addr} :
    s.EndsAsUserMay (jumpLink len r1 target s) :=
  transfer_user fun _ => (jumpTo_context _ _).after

theorem jumpFirstOne_user {w : Nat} {r1 : Reg} {n : Nib} {v : State → BitVec w} :
    s.EndsAsUserMay (jumpFirstOne r1 n v s) := by
  refine transfer_user fun t => ?_
  split
  · simp
  · exact (jumpTo_context _ _).after

/-- LM and STM, whole or abandoned. -/
theorem multiple_user {len n : Nat} {transfers : Nat → State → Res Unit}
    (h : ∀ k (t : State), t.KeepsContext (transfers k t)) : s.EndsAsUserMay (multiple len n transfers s) := by
  refine transfer_user fun t => ?_
  have whole : t.KeepsContext ((transfers n t).bind fun _ u => .ok () (u.setPc (nextAddr s.pc len))) :=
    (h n t).andThen
  dsimp only
  split
  · split
    · intro _ v e
      obtain ⟨_, u, hu, hv⟩ := Res.bind_eq_ok.1 e
      split at hv
      · exact whole _ _ hv
      · cases hv
        exact h _ t () u hu
    · exact whole
  · exact whole

end Shapes

/-! ## Status switching -/

section Status

variable {s : State} {r1 : Reg} {rx : RxAddr}

/-- UPSW loads T, the condition code and the location (R332). -/
theorem execUpsw_user : s.EndsAsUserMay (execUpsw r1 rx s) :=
  transfer_user fun t => (readPswAndPc_context t _).bind fun _ _ => (loadPc_context _ _).after

/-- The sixteen routine addresses of SVC, from 0x9C to 0xBA, stand in memory (R336). -/
theorem svcEntry_memory (k : Nib) : isMemory (svcEntry k) = true := by
  revert k
  decide

/-- SVC puts the PSW at 0x98 in force (R336). -/
theorem execSvc_user : s.EndsAsUserMay (execSvc r1 rx s) := by
  refine finish_user fun _ t e => ?_
  obtain ⟨newPsw, u, readPsw, e⟩ := Res.bind_eq_ok.1 e
  obtain ⟨entry, v, readEntry, e⟩ := Res.bind_eq_ok.1 e
  obtain ⟨rfl, rfl⟩ := absReadFull_memory (by decide) readPsw
  obtain ⟨-, rfl⟩ := absReadHalf_memory (svcEntry_memory r1) readEntry
  obtain ⟨-, rfl⟩ := enterAt_eq_ok.1 e
  exact .inr (.inr (.inr rfl))

end Status

/-! ## The special instructions -/

section Special

variable {s : State} {r1 r2 : Reg}

theorem copyWhole_context (t : State) : t.KeepsContext (copyWhole r1 r2 t) :=
  (copyBlock_context t.tick _ _ _ _ _).after.andThen

theorem copyPart_context (k : Nat) (t : State) : t.KeepsContext (copyPart k r1 r2 t) := by
  unfold copyPart
  dsimp only
  split <;> exact (copyBlock_context t.tick _ _ _ _ _).after.andThen

theorem execCopy_user : s.EndsAsUserMay (execCopy r1 r2 s) := by
  refine sinceS15_user (transfer_user fun t => ?_)
  dsimp only
  split
  · simp
  split
  · simp
  split
  · split
    · exact copyPart_context _ t
    · exact copyWhole_context t
  · exact copyWhole_context t

theorem execArand_user : s.EndsAsUserMay (execArand r1 r2 s) := by
  refine sinceS15_user (transfer_user fun t => ?_)
  dsimp only
  split
  · refine (searchArrays_context t _ _ _).bind fun found u => ?_
    split
    · simp
    · cases found <;> simp
  · simp

theorem sbodOpen_context (t : State) : t.KeepsContext (sbodOpen r1 r2 t) := by
  unfold sbodOpen
  split
  · simp
  · refine (readHalves_context t.tick _).after.bind fun hs v => ?_
    dsimp only
    split <;> simp

theorem sbodScan_context (t : State) : t.KeepsContext (sbodScan r1 r2 t) := by
  refine (scanSteps_context t.tick.tick _ _).after.bind fun _ u => ?_
  split
  · exact sbodOpen_context u
  split
  · simp
  · refine (scanSteps_context u.tick _ _).after.bind fun _ v => (readHalves_context v _).bind fun hs w => ?_
    split
    · exact sbodOpen_context w
    · simp

theorem execSbod_user : s.EndsAsUserMay (execSbod r1 r2 s) := by
  refine asyncOnly_user (transfer_user fun t => ?_)
  split
  · exact sbodScan_context t
  · exact sbodOpen_context t

theorem transmit_context (t : State) : t.KeepsContext (transmit r1 r2 t) := by
  refine (readHalf_context t _).bind fun lctime t1 => (readHalf_context t1 _).bind fun w t2 =>
    (readHalf_context t2 _).bind fun baud u => (writeBits_context _ _ _).after.bind fun _ x =>
      State.KeepsContext.bind ?_ fun _ y => writeHalf_context y _ _
  split
  · exact turnTamOff_context x _
  · simp

theorem execXmit_user : s.EndsAsUserMay (execXmit r1 r2 s) := by
  refine asyncOnly_user (sequential_user fun t => ?_)
  split
  · exact transmit_context t
  · simp

theorem execSpm_user : s.EndsAsUserMay (execSpm r1 r2 s) := asyncOnly_user (transfer_user (by simp))

theorem receive_context (t : State) : t.KeepsContext (receive r1 r2 t) := by
  refine (readHalf_context t _).bind fun length t1 => (readHalf_context t1 _).bind fun center t2 =>
    (readHalf_context t2 _).bind fun baud t3 => (readHalves_context t3.tick _).after.bind fun hs u =>
      (linkPort_context u _ _).bind fun _ v => ?_
  dsimp only
  split <;> simp

theorem execGchar_user : s.EndsAsUserMay (execGchar r1 r2 s) := by
  refine asyncOnly_user (transfer_user fun t => ?_)
  split
  · exact receive_context t
  · simp

theorem execScan_user : s.EndsAsUserMay (execScan r1 r2 s) := by
  refine sinceS15_user (transfer_user fun t => (scanRing_context t.tick _ _ _ _ _).after.bind fun hit u => ?_)
  dsimp only
  split <;> simp

theorem execAlign_user : s.EndsAsUserMay (execAlign r1 r2 s) := by
  refine sinceS15_user (operate_user (fun t => ?_) (by simp))
  split
  · simp
  · exact writeFreeHalves_context t _

theorem execCksum_user : s.EndsAsUserMay (execCksum r1 r2 s) := by
  unfold execCksum
  split
  · refine transfer_user fun t => (readHalves_context t _).bind fun _ u => ?_
    dsimp only
    split <;> simp
  · exact takeIllegal_user

theorem inlineTarget_context (a : Addr) (k : Nat) (t : State) : t.KeepsContext (inlineTarget a k t) :=
  (readHalf_context t _).andThen

theorem inlineError_context (rs : List Reg) (t : State) : t.KeepsContext (inlineError rs t) :=
  (inlineTarget_context _ _ t).bind fun _ _ => (loadPc_context _ _).after

theorem gciNext_context (a : Addr) (p be : Word) (t : State) : t.KeepsContext (gciNext a p be t) := by
  unfold gciNext
  dsimp only
  generalize (if t.freeBit then be == p else be == p + 1#32) = empty
  split
  · exact (inlineTarget_context _ _ _).after
  split
  · exact (inlineTarget_context _ _ _).after
  · simp

theorem execGci_user : s.EndsAsUserMay (execGci r1 r2 s) := by
  refine sinceS15_user (transfer_user fun t => (readHalf_context t _).bind fun size u => ?_)
  dsimp only
  split
  · exact inlineError_context _ u
  refine (readHalf_context u _).bind fun quarter v => (readFull_context v _).bind fun p w => ?_
  split
  · exact inlineError_context _ w
  refine (readFull_context w _).bind fun be x => (readByte_context x _).bind fun b y =>
    (gciNext_context _ _ _ y).bind fun onward z => (writeFull_context _ _ _).after.bind fun _ z' =>
      (loadPc_context _ _).after ?_
  split <;> simp

theorem wciStore_context (lastFilled : Bool) (be : Word) (b : Byte) (t : State) :
    t.KeepsContext (wciStore lastFilled be b t) := by
  unfold wciStore
  split
  · split
    · simp
    · exact writeByte_context t _ _
  · exact writeByte_context t _ _

theorem execWci_user : s.EndsAsUserMay (execWci r1 r2 s) := by
  refine sinceS15_user (transfer_user fun t => (readHalf_context t _).bind fun size u => ?_)
  dsimp only
  split
  · exact inlineError_context _ u
  refine (readHalf_context u _).bind fun quarter v => (readFull_context v _).bind fun be w => ?_
  split
  · exact (inlineTarget_context _ _ w).bind fun _ _ => (loadPc_context _ _).after
  refine State.KeepsContext.bind ?_ fun onward x => (wciStore_context _ _ _ _).after.bind fun _ y =>
    (writeFull_context y _ _).bind fun _ _ => (loadPc_context _ _).after
  split
  · exact inlineTarget_context _ _ w
  · simp

theorem execCbct_user : s.EndsAsUserMay (execCbct r1 r2 s) := sinceS15_user (sequential_user (by simp))

/-- RTD1, RTD2, RMA1 and RMA2. -/
theorem recordInstr_user {toBuffer : Bool} {base : State → Addr} :
    s.EndsAsUserMay (sinceS15 (transfer fun t => recordCopy toBuffer (base t) r1 r2 t) s) := by
  refine sinceS15_user (transfer_user fun t => (moveRecord_context t.tick _ _ _ _ _).after.bind fun m u =>
    State.KeepsContext.bind ?_ fun onward v => (loadPc_context _ _).after)
  split
  · simp
  · exact inlineTarget_context _ _ u

end Special

/-! ## Loads, stores and the console -/

section Single

variable {s : State} {r1 r2 : Reg} {rx : RxAddr}

theorem execAm_user : s.EndsAsUserMay (execAm r1 rx s) := by
  refine sequential_user fun t => (operandFull_context rx t).bind fun _ u =>
    (writeFull_context u _ _).bind fun _ w => ?_
  split <;> simp

theorem execAhm_user : s.EndsAsUserMay (execAhm r1 rx s) :=
  sequential_user fun t => (operandHalf_context rx t).bind fun _ _ => (writeHalf_context _ _ _).after

theorem execCio_user : s.EndsAsUserMay (execCio r1 r2 s) :=
  sequential_user fun t => keepsContext_ok.2 <| context_writeReg (t := { t with
    displayLeft := (t.reg (nextReg r1)).setWidth 20, displayRight := t.regHalf r1 }) _ _

end Single

/-! ## Every instruction -/

/-- Every instruction, begun in user mode: each by the shape it has, or, if it has one of its own, by the lemma about
it. -/
theorem exec_user (i : Instr) {s : State} (hp : s.psw.p = true) : s.EndsAsUserMay (exec i s) := by
  unfold exec
  cases i with
  | lr | lis | lcs | la | lbr | exhr | exbr | lhr | li | lhi => exact load_user (operandOf_context _)
  | l => exact load_user (operandFull_context _)
  | lh => exact load_user (operandHalf_context _)
  | lhl => exact load_user (operandHalfZero_context _)
  | lb => exact load_user (operandByte_context _)
  | ar | ais | ai | ahi => exact addTo_user (operandOf_context _)
  | a => exact addTo_user (operandFull_context _)
  | ah => exact addTo_user (operandHalf_context _)
  | sr | sis | si | shi => exact subFrom_user (operandOf_context _)
  | s => exact subFrom_user (operandFull_context _)
  | sh => exact subFrom_user (operandHalf_context _)
  | clr | cli | clhi => exact compareLogical_user (operandOf_context _)
  | cl => exact compareLogical_user (operandFull_context _)
  | clh => exact compareLogical_user (operandHalf_context _)
  | cr | ci | chi => exact compareSigned_user (operandOf_context _)
  | c => exact compareSigned_user (operandFull_context _)
  | ch => exact compareSigned_user (operandHalf_context _)
  | mr => exact multiply_user (operandOf_context _)
  | m => exact multiply_user (operandFull_context _)
  | mhr => exact multiplyHalf_user (operandOf_context _)
  | mh => exact multiplyHalf_user (operandHalfZero_context _)
  | dr => exact divide_user (operandOf_context _)
  | d => exact divide_user (operandFull_context _)
  | dhr => exact divideByHalf_user (operandOf_context _)
  | dh => exact divideByHalf_user (operandHalf_context _)
  | nr | ni | nhi | or | oi | ohi | xr | xi | xhi => exact logical_user (operandOf_context _)
  | n | o | x => exact logical_user (operandFull_context _)
  | nh | oh | xh => exact logical_user (operandHalf_context _)
  | ti | thi => exact test_user (operandOf_context _)
  | clb => exact operate_user (operandByte_context _) (by simp)
  | ts => exact operate_user (fun t => testAndSetAt_context t _) (by simp)
  | tbt => exact operate_user (fun t => readHalf_context t _) (by simp)
  | sbt | rbt | cbt => exact changeBit_user
  | sll | slls | srl | srls | sra => exact shiftFull_user
  | slhl | slhls | srhl | srhls => exact shiftHalf_user
  | rll | rrl => exact rotate_user
  | stbr => exact sequential_user (by simp)
  | st => exact sequential_user fun t => writeFull_context t _ _
  | sth => exact sequential_user fun t => writeHalf_context t _ _
  | stb => exact sequential_user fun t => writeByte_context t _ _
  | lm => exact multiple_user fun _ t => loadMultiple_context t _ _ _
  | stm => exact multiple_user fun _ t => storeMultiple_context t _ _ _
  | copy => exact execCopy_user
  | am => exact execAm_user
  | ahm => exact execAhm_user
  | arand => exact execArand_user
  | jt | jtr | jtbs | jtfs | nop | nopr | jn | jnr | jnbs | jnfs | jg | jgr | jgbs | jgfs
  | jl | jlr | jlbs | jlfs | jc | jcr | jcbs | jcfs => exact jumpTrue_user
  | jf | jfr | jfbs | jffs | j | jr | jbs | jfs | je | jer | jebs | jefs | jge | jger | jgebs | jgefs
  | jle | jler | jlebs | jlefs | jnc | jncr | jncbs | jncfs => exact jumpFalse_user
  | jal | jalr => exact jumpLink_user
  | jffo | jffoh => exact jumpFirstOne_user
  | lpsw | lpswr | epsr | ssr | rdr | ocr | wdr | oc | wd => exact privileged_user hp
  | upsw => exact execUpsw_user
  | svc => exact execSvc_user
  | cio => exact execCio_user
  | sbod => exact execSbod_user
  | xmit => exact execXmit_user
  | spm => exact execSpm_user
  | gchar => exact execGchar_user
  | scan => exact execScan_user
  | align => exact execAlign_user
  | cksum => exact execCksum_user
  | gci => exact execGci_user
  | wci => exact execWci_user
  | cbct => exact execCbct_user
  | rtd1 | rtd2 | rma1 | rma2 => exact recordInstr_user

/-- Settles O5: every instruction keeps the context or enters a PSW at a dedicated location. -/
theorem userCannotGainPrivilege : Obligations.UserCannotGainPrivilege := fun i _ t hp e => exec_user i hp t e

end Sys2Proof.Machine
